-- ==== Sys2Proof/Word.lean ====
section
/-!
DEFINITION. The words of the OT316's links: both the Show Link and the Field Loop carry 8-bit characters (Table 0-2, Chapter 11).
Anything the manual only counts, measures or names is a `Nat`, a `Fin` or an inductive type; a `BitVec` stands only for what travels
on a link or wraps at a width the manual gives.
-/

namespace Sys2Proof

/-- One 8-bit character of either link (Table 0-2). -/
abbrev Byte := BitVec 8

/-- A 32-bit counter, wrapping from 4 294 967 295 to 0 (R19, R108, R129, R144, R162, R165). -/
abbrev Counter := BitVec 32

end Sys2Proof
end

