-- ==== Sys2Proof/Syntax.lean ====
section
/-!
DEFINITION. The commands of the OT316: one constructor of `Instr` for each row of the table of operations and events.

The part is reached only through its two links and its own timers (Section 0.2), so a command is one of three things.
* `fInFrame` and `sInFrame` carry the raw characters that ended at a port. Every finer arrival row (an echo, a report, a host frame for
  the field, a management request) is the arrival of one frame that has already passed the port's tests; it carries the frame's own
  fields (log entry 2).
* A timer row is one expiry of the named timer; it names the train, block, … whose timer it is.
* The remaining rows are completions inside the part: a load, a store write, a transmission, the judgement of a pending event.
-/

namespace Sys2Proof

/-- The management requests of Table 11-3 with their arguments, as one request of the host asks for them. -/
inductive Request where
  | identify
  | readTable (table start count : Byte)
  | writeTable (table start : Byte) (entries : List Byte)
  | readState (block first count : Byte)
  | readFlags
  | writeMask (mask : BitVec 32)
  | readCounters (group : Byte)
  | clearCounters
  | setMode (mode : Byte)
  | stopAll
  | dispatch (train route : Byte) (wait : BitVec 16)
  | cancelRequest (train : Byte)
  | setTrainMode (train mode : Byte)
  | locate (train : Byte) (blocks : List Byte)
  | remove (train : Byte)
  | clearHalt (train : Byte)
  | reverse (train : Byte)
  | calibrate (train block step : Byte)
  | cancelCalibration (train : Byte)
  | turnoutRetry (turnout : Byte)
  | clearBlock (block : Byte)
  | rotorStart (rotor step : Byte)
  | rotorStop (rotor : Byte)
  | rotorHalt (rotor : Byte)
  | clearRotor (rotor : Byte)
  | clockSet (second : BitVec 24) (day : BitVec 16) (mode : Byte)
  | clockRate (rate : BitVec 16)
  | cueFire (cue : Byte)
  | cueEnable (cue : Byte)
  | cueDisable (cue : Byte)
  | cueResetStamp (cue : Byte)
  | store
  | restore
  | restart
  deriving DecidableEq, Repr

/-- The commands, one for each row of spec/opcode_table.json, in the table's order. -/
inductive Instr where
  /-- POWER_ON (R174). -/
  | powerOn
  /-- START_UP_LOAD_COMPLETE (R174). -/
  | startUpLoadComplete
  /-- RESTORE_LOAD_COMPLETE (R176). -/
  | restoreLoadComplete
  /-- F_IN_FRAME (R16): the characters that line idle ended at F-in. -/
  | fInFrame (chars : List Byte)
  /-- ECHO_RECEIVED (R4): a good ECHO with SRC 0 and DEST 0. -/
  | echoReceived (payload : List Byte)
  /-- UNCLAIMED_FRAME (R17): a good frame with SRC 0. -/
  | unclaimedFrame (dest kind : Byte) (payload : List Byte)
  /-- SENSE_RECEIVED (R24): a good SENSE of the node SRC. -/
  | senseReceived (src : Byte) (payload : List Byte)
  /-- LIGHTCOUNT_RECEIVED (R104): a good LIGHTCOUNT of the node SRC. -/
  | lightcountReceived (src : Byte) (payload : List Byte)
  /-- NODE_FAULT_RECEIVED (R18): a good NODE_FAULT of the node SRC. -/
  | nodeFaultReceived (src : Byte) (payload : List Byte)
  /-- S_IN_FRAME (R156): the characters that line idle ended at S-in. -/
  | sInFrame (chars : List Byte)
  /-- HOST_DRIVE (R79). -/
  | hostDrive (dest : Byte) (payload : List Byte)
  /-- HOST_SWITCH (R45). -/
  | hostSwitch (dest : Byte) (payload : List Byte)
  /-- HOST_ROTOR (R140). -/
  | hostRotor (dest : Byte) (payload : List Byte)
  /-- HOST_LEVEL (R126). -/
  | hostLevel (dest : Byte) (payload : List Byte)
  /-- HOST_ALLSTOP (R159). -/
  | hostAllstop (dest : Byte) (payload : List Byte)
  /-- HOST_SENSE_REQUEST (R159). -/
  | hostSenseRequest (dest : Byte) (payload : List Byte)
  /-- HOST_UNKNOWN_KIND_FRAME (R159). -/
  | hostUnknownKindFrame (dest kind : Byte) (payload : List Byte)
  /-- UNKNOWN_REQUEST (R167): a management frame's whole payload. -/
  | unknownRequest (payload : List Byte)
  /-- IDENTIFY (R171). -/
  | identify (tag : Byte)
  /-- READ_TABLE (R170). -/
  | readTable (tag table start count : Byte)
  /-- WRITE_TABLE (R170). -/
  | writeTable (tag table start : Byte) (entries : List Byte)
  /-- READ_STATE (R171). -/
  | readState (tag block first count : Byte)
  /-- READ_FLAGS (R173). -/
  | readFlags (tag : Byte)
  /-- WRITE_MASK (R173). -/
  | writeMask (tag : Byte) (mask : BitVec 32)
  /-- READ_COUNTERS (R171). -/
  | readCounters (tag group : Byte)
  /-- CLEAR_COUNTERS (R171). -/
  | clearCounters (tag : Byte)
  /-- SET_MODE (R169). -/
  | setMode (tag mode : Byte)
  /-- STOP_ALL (R85). -/
  | stopAll (tag : Byte)
  /-- DISPATCH (R52). -/
  | dispatch (tag train route : Byte) (wait : BitVec 16)
  /-- CANCEL_REQUEST (R56). -/
  | cancelRequest (tag train : Byte)
  /-- SET_TRAIN_MODE (R81). -/
  | setTrainMode (tag train mode : Byte)
  /-- LOCATE (R63). -/
  | locate (tag train : Byte) (blocks : List Byte)
  /-- REMOVE (R64). -/
  | remove (tag train : Byte)
  /-- CLEAR_HALT (R86). -/
  | clearHalt (tag train : Byte)
  /-- REVERSE (R90). -/
  | reverse (tag train : Byte)
  /-- CALIBRATE (R91). -/
  | calibrate (tag train block step : Byte)
  /-- CANCEL_CALIBRATION (R91). -/
  | cancelCalibration (tag train : Byte)
  /-- TURNOUT_RETRY (R43). -/
  | turnoutRetry (tag turnout : Byte)
  /-- CLEAR_BLOCK (R65). -/
  | clearBlock (tag block : Byte)
  /-- ROTOR_START (R132). -/
  | rotorStart (tag rotor step : Byte)
  /-- ROTOR_STOP (R133). -/
  | rotorStop (tag rotor : Byte)
  /-- ROTOR_HALT (R135). -/
  | rotorHalt (tag rotor : Byte)
  /-- CLEAR_ROTOR (R135). -/
  | clearRotor (tag rotor : Byte)
  /-- CLOCK_SET_JUMP (R99). -/
  | clockSetJump (tag : Byte) (second : BitVec 24) (day : BitVec 16)
  /-- CLOCK_SET_SLEW (R100). -/
  | clockSetSlew (tag : Byte) (second : BitVec 24) (day : BitVec 16)
  /-- CLOCK_RATE (R101). -/
  | clockRate (tag : Byte) (rate : BitVec 16)
  /-- CUE_FIRE (R154). -/
  | cueFire (tag cue : Byte)
  /-- CUE_ENABLE (R153). -/
  | cueEnable (tag cue : Byte)
  /-- CUE_DISABLE (R153). -/
  | cueDisable (tag cue : Byte)
  /-- CUE_RESET_STAMP (R155). -/
  | cueResetStamp (tag cue : Byte)
  /-- STORE (R175). -/
  | store (tag : Byte)
  /-- RESTORE (R176). -/
  | restore (tag : Byte)
  /-- RESTART (R177). -/
  | restart (tag : Byte)
  /-- STORE_WRITE_DONE (R175). -/
  | storeWriteDone
  /-- STORE_WRITE_ERROR (R175). -/
  | storeWriteError
  /-- ECHO_INTERVAL_EXPIRY (R3). -/
  | echoIntervalExpiry
  /-- WATCHDOG_EXPIRY (R5). -/
  | watchdogExpiry
  /-- FILTER_TIMER_EXPIRY (R27). -/
  | filterTimerExpiry (entry : Fin 128)
  /-- THROW_TIMER_EXPIRY (R41). -/
  | throwTimerExpiry (turnout : Fin 16)
  /-- WARN_TIMER_EXPIRY (R48). -/
  | warnTimerExpiry (block : Fin 48)
  /-- WAIT_TIMER_EXPIRY (R55): the wait timer of the one request the train has. -/
  | waitTimerExpiry (train : Fin 8)
  /-- MOTION_UPDATE (R69). -/
  | motionUpdate
  /-- TRAIN_REFRESH_EXPIRY (R75). -/
  | trainRefreshExpiry (train : Fin 8)
  /-- GUIDE_TIMER_EXPIRY (R80). -/
  | guideTimerExpiry (train : Fin 8)
  /-- DAY_CLOCK_TICK (R96). -/
  | dayClockTick
  /-- AMBIENT_TIMER_EXPIRY (R107). -/
  | ambientTimerExpiry
  /-- LAMP_REFRESH (R111). -/
  | lampRefresh
  /-- STAGGER_TIMER_EXPIRY (R115). -/
  | staggerTimerExpiry (channel : Fin 192)
  /-- OVERRIDE_TIMER_EXPIRY (R121). -/
  | overrideTimerExpiry (channel : Fin 192)
  /-- ROTOR_UPDATE (R136). -/
  | rotorUpdate
  /-- ROTOR_REFRESH_EXPIRY (R137). -/
  | rotorRefreshExpiry (rotor : Fin 4)
  /-- WINDOW_TIMER_EXPIRY (R147). -/
  | windowTimerExpiry (cue : Fin 64)
  /-- HOLD_OFF_TIMER_EXPIRY (R148). -/
  | holdOffTimerExpiry (cue : Fin 64)
  /-- CUE_EVENT_JUDGEMENT (R144). -/
  | cueEventJudgement
  /-- F_OUT_TRANSMIT_COMPLETE (R14). -/
  | fOutTransmitComplete
  /-- S_OUT_TRANSMIT_COMPLETE (R165). -/
  | sOutTransmitComplete
  deriving DecidableEq, Repr

end Sys2Proof
end

