-- ==== Sys2Proof/Decode.lean ====
section
/-!
DEFINITION. The words of the table of operations and events. The table gives its rows no bits (every row's list of fields is empty), since
the part takes frames, timer expiries and completions, not encoded instructions: no word spells a command. The bytes by which commands do
travel, frames and management requests, are read in Machine/Operands.lean (Chapter 11).
-/

namespace Sys2Proof

/-- The command that a word spells by the table's bits: none for every word. -/
def decodeTableWord (_nbits _w : Nat) : Option Instr := none

end Sys2Proof
end

