-- ==== Sys2Proof/Config.lean ====
section
/-!
DEFINITION. The fixed capacities and periods the manual gives the OT316, and the one free value it leaves open.
-/

namespace Sys2Proof.Config

/-- FREE VALUE (log entry 1). R92 divides by s × T; the manual gives no result for T = 0, which it does not exclude. The raw quotient
is then this uninterpreted function of the block length in mm and the calibration step; the clamp to 1–255 that R92 makes afterwards is
applied to it like to any other quotient. -/
opaque calibrationQuotientAtZeroTime : Nat → Nat → Nat

/-- FREE VALUE (log entry 19). TURNOUT RETRY throws a FAULT turnout to its commanded position (R43); the manual does not say where to when
the turnout was made FAULT before its first throw, so that it has no commanded position. True stands for REVERSE. -/
opaque retryReversed : Nat → Bool

/-- Places of the Pass Queue (R13). -/
def passCapacity : Nat := 32
/-- Places of the Engine Queue (R11). -/
def engineCapacity : Nat := 48
/-- Engine Queue places open to LEVEL frames (R11). -/
def engineLevelCapacity : Nat := 20
/-- Places of the Management Intake (R157, R166). -/
def intakeCapacity : Nat := 4
/-- REPLY frames that may wait in the Upstream Queue before the Management Unit stops taking requests (R163). -/
def replyCapacity : Nat := 4
/-- Places of the Upstream Queue open to frames other than REPLY (R163, R164). -/
def upstreamOtherCapacity : Nat := 28
/-- Places of the Cue Engine's pending list (R144). -/
def cuePendingCapacity : Nat := 32
/-- Highest drive setpoint (Table 0-5). -/
def maxStep : Nat := 126
/-- Occupied blocks a train may have (R46). -/
def maxOccupied : Nat := 4
/-- Reserved blocks a train may have (R46). -/
def maxReserved : Nat := 8
/-- Deepest chain depth of a firing (R150). -/
def maxChainDepth : Nat := 4
/-- Node channels one LEVEL frame may carry (R124). -/
def maxLevelRun : Nat := 47
/-- Result bytes one REPLY can carry (R181). -/
def maxResult : Nat := 46
/-- Virtual milliseconds of one virtual day (R98). -/
def dayLength : Nat := 86400000
/-- Period of the motion update timer, ms (R69). -/
def motionPeriod : Nat := 20
/-- Period of the rotor update timer, ms (R136). -/
def rotorPeriod : Nat := 20
/-- Period of the Lamp Engine's refresh timer, ms (R111). -/
def lampPeriod : Nat := 40
/-- Period of the Day Clock's timer, ms (R94). -/
def clockPeriod : Nat := 1
/-- Period of the DRIVE and ROTOR refresh timers, ms (R75, R137). -/
def refreshPeriod : Nat := 1000
/-- Identification code of the part (R171). -/
def identification : Nat := 0x0316
/-- Format level of the part's tables and frames (R171). -/
def formatLevel : Nat := 1
/-- The address of the part itself (Table 0-1). -/
def partAddress : Nat := 0
/-- The address of the show controller (Table 0-1). -/
def hostAddress : Nat := 126
/-- The broadcast address (Table 0-1). -/
def broadcastAddress : Nat := 127

end Sys2Proof.Config
end

