-- ==== Sys2Proof/Machine/State.lean ====
section
/-!
DEFINITION. The state of the OT316: for each of the thirteen blocks of Table 0-3 the tables, records, queues, timers and counters its
chapter gives it, and the queue of commands that wait. `State.reset` is the part right after power-on (R174), with no stored image.
-/

namespace Sys2Proof.Machine

/-- A timer of the part: `none` when stopped, `some d` when it runs and was last started for `d` ms. Expiries are commands of their own;
the model does not count a timer down (log entry 4). -/
abbrev Timer := Option Nat

/-- A fixed-length list given by its elements. -/
def tabulate {α : Type} {n : Nat} (f : Fin n → α) : Vector α n :=
  ⟨⟨(List.finRange n).map f⟩, by simp⟩

/-! ## Names the tables and records share -/

abbrev BlockId := Fin 48
abbrev TurnoutId := Fin 16
abbrev RouteId := Fin 32
abbrev TrainId := Fin 8
abbrev EntryId := Fin 128
abbrev ChannelId := Fin 192
abbrev RotorId := Fin 4
abbrev CueId := Fin 64

/-- Throw target of a turnout (Table 3-4, R39). -/
inductive Position where
  | normal | reverse
  deriving DecidableEq, Repr

/-- Direction value of DRIVE and ROTOR frames (Tables 4-1, 7-1). -/
inductive Direction where
  | forward | reverse
  deriving DecidableEq, Repr

/-- Mode of a train (Table 4-1). -/
inductive TrainMode where
  | auto | guided
  deriving DecidableEq, Repr

/-- Aspect of a block (R50). -/
inductive Aspect where
  | proceed | stop
  deriving DecidableEq, Repr

/-- Half of the flash a CROSSING channel is lit in (Table 6-2). -/
inductive FlashPhase where
  | a | b
  deriving DecidableEq, Repr

/-! ## Table entries -/

/-- Table 3-1. -/
structure BlockEntry where
  enabled : Bool
  crossing : Bool
  length : Nat
  speedCap : Nat
  warnTime : Nat
  deriving DecidableEq, Repr

/-- Table 3-3. -/
structure TurnoutEntry where
  enabled : Bool
  feedback : Bool
  node : Nat
  channel : Nat
  block : BlockId
  throwLimit : Nat
  deriving DecidableEq, Repr

/-- Table 3-4. -/
structure RouteEntry where
  enabled : Bool
  start : BlockId
  cruise : Nat
  blocks : List BlockId
  turnouts : List (TurnoutId × Position)
  deriving DecidableEq, Repr

/-- Table 4-1. -/
structure TrainEntry where
  enabled : Bool
  direction : Direction
  mode : TrainMode
  node : Nat
  channel : Nat
  speedScale : Nat
  acceleration : Nat
  deceleration : Nat
  stopMargin : Nat
  startStep : Nat
  missDistance : Nat
  earlyTolerance : Nat
  guideTimeout : Nat
  home : Option BlockId
  deriving DecidableEq, Repr

/-- Function and subject of a Sensor Map entry (Table 2-1). -/
inductive SensorFunction where
  | occupancy (block : BlockId)
  | button
  | turnoutNormal (turnout : TurnoutId)
  | turnoutReverse (turnout : TurnoutId)
  | index (rotor : RotorId)
  | spare
  deriving DecidableEq, Repr

/-- Table 2-1. -/
structure SensorEntry where
  enabled : Bool
  invert : Bool
  node : Nat
  input : Nat
  function : SensorFunction
  filterTime : Nat
  deriving DecidableEq, Repr

/-- Table 1-1. -/
structure LoopConfig where
  echoInterval : Nat
  passThreshold : Nat
  errorThreshold : Nat
  deriving DecidableEq, Repr

/-- Node Policy entry (R18). -/
structure PolicyEntry where
  forwardSense : Bool
  forwardLightcount : Bool
  forwardNodeFault : Bool
  deriving DecidableEq, Repr

/-- Who sets a lamp channel's level (Table 6-1). -/
inductive Ownership where
  | show | engine | merge
  deriving DecidableEq, Repr

/-- Kind of a lamp channel with the kind's parameters (Table 6-2). -/
inductive LampKind where
  | skywash (low high : Nat)
  | street (onLevel offLevel stagger : Nat)
  | window (onMinute offMinute : Nat)
  | signal (block : BlockId) (shows : Aspect)
  | crossing (block : BlockId) (phase : FlashPhase)
  | headlight (train : TrainId) (onLevel : Nat)
  | chase (rotor : RotorId) (phaseFrom phaseTo : Nat)
  | cue
  deriving DecidableEq, Repr

/-- Table 6-1. -/
structure PatchEntry where
  mapped : Bool
  node : Nat
  nodeChannel : Nat
  ownership : Ownership
  kind : LampKind
  onValue : Nat
  ceiling : Nat
  fadeStep : Nat
  ambientWeight : Nat
  deriving DecidableEq, Repr

/-- Table 5-2. -/
structure ClockConfig where
  startTime : Nat
  startRate : Nat
  ambientNode : Nat
  ambientDefault : Nat
  ambientTimeout : Nat
  deriving DecidableEq, Repr

/-- Table 7-1. -/
structure RotorEntry where
  enabled : Bool
  direction : Direction
  node : Nat
  channel : Nat
  maxStep : Nat
  creepStep : Nat
  acceleration : Nat
  indexEntry : EntryId
  stallLimit : Nat
  deriving DecidableEq, Repr

/-- Event selector of a cue, and the device event it matches (Table 8-2). -/
inductive CueTrigger where
  | blockEnter (block : BlockId)
  | blockClear (block : BlockId)
  | button (entry : EntryId)
  | spareRise (entry : EntryId)
  | spareFall (entry : EntryId)
  | minute (minute : Nat)
  | clockJumped
  | rotorIndex (rotor : RotorId)
  | rotorStopped (rotor : RotorId)
  | trainArrived (train : TrainId)
  | routeGranted (train : TrainId)
  | routeTimeout (train : TrainId)
  | cueFired (cue : CueId)
  | loopUp
  | loopDown
  deriving DecidableEq, Repr

/-- Table 8-1, mode. -/
inductive CueMode where
  | countA | either | aThenB | aCountThenB | bothWithin
  deriving DecidableEq, Repr

/-- Table 8-3. -/
inductive CueAction where
  | dispatch (train : TrainId) (route : RouteId) (wait : Nat)
  | cancelRequest (train : TrainId)
  | override (channel : ChannelId) (level duration : Nat)
  | rotorStart (rotor : RotorId) (step : Nat)
  | rotorStop (rotor : RotorId)
  | setRate (rate : Nat)
  | modeHold
  | enableCue (cue : CueId)
  | disableCue (cue : CueId)
  | report (detail : Nat)
  deriving DecidableEq, Repr

/-- Table 8-1, stamp mode. -/
inductive StampMode where
  | first | last
  deriving DecidableEq, Repr

/-- Table 8-1. -/
structure CueEntry where
  enabled : Bool
  oneShot : Bool
  stampMode : StampMode
  mode : CueMode
  count : Nat
  triggerA : CueTrigger
  triggerB : Option CueTrigger
  window : Nat
  holdOff : Nat
  actions : List CueAction
  deriving DecidableEq, Repr

/-- The fourteen tables of Table 10-3, as the part runs on them and as the Settings Store keeps them. -/
structure Tables where
  blocks : Vector BlockEntry 48
  turnouts : Vector TurnoutEntry 16
  routes : Vector RouteEntry 32
  trains : Vector TrainEntry 8
  sensors : Vector SensorEntry 128
  loop : LoopConfig
  policy : Vector PolicyEntry 96
  patch : Vector PatchEntry 192
  sky : List (Nat × Nat)
  ambient : List (Nat × Nat)
  clock : ClockConfig
  rotors : Vector RotorEntry 4
  cues : Vector CueEntry 64
  mask : BitVec 32
  deriving DecidableEq, Repr

/-! ## Frames and queues (Chapters 1, 9 and 11) -/

/-- A frame on either link. LEN is the payload's length and CHECK the CRC over the rest (R178), so neither is kept apart. -/
structure Frame where
  dest : Byte
  src : Byte
  kind : Byte
  payload : List Byte
  deriving DecidableEq, Repr

/-- Table 1-4. -/
inductive UrgentKey where
  | echo | senseRequest | allStop
  | emergencyDrive (train : TrainId)
  deriving DecidableEq, Repr

/-- Table 1-5. -/
inductive EngineKey where
  | drive (train : TrainId)
  | rotor (rotor : RotorId)
  | switch (turnout : TurnoutId)
  | level (node firstChannel : Nat)
  deriving DecidableEq, Repr

/-- The served-last marker of the Output Arbiter (R14). -/
inductive ServedLast where
  | engine | pass
  deriving DecidableEq, Repr

/-- The queue a frame in transmission at F-out came from (R14). -/
inductive FOutSource where
  | urgent | engine | pass
  deriving DecidableEq, Repr

/-- The sending side of the Field Loop Port (R9–R15) and its Missing Node List (R20): address a is bit a − 1. -/
structure FieldPort where
  urgent : List (UrgentKey × Frame)
  engine : List (EngineKey × Frame)
  pass : List Frame
  servedLast : ServedLast
  transmitting : Option (FOutSource × Frame)
  missing : BitVec 96
  deriving DecidableEq, Repr

/-- Table 1-2, state. -/
inductive LoopState where
  | down | proving | qualified
  deriving DecidableEq, Repr

/-- Table 1-2, down cause. -/
inductive DownCause where
  | errors | timeout
  deriving DecidableEq, Repr

/-- Table 1-2. -/
structure LoopMonitor where
  state : LoopState
  echoNumber : Byte
  echoOutstanding : Bool
  goodCount : Nat
  errorCount : Nat
  intervalTimer : Timer
  watchdog : Timer
  downCause : Option DownCause
  deriving DecidableEq, Repr

/-! ## Counters -/

/-- Drop reasons at F-in (Table 1-8). -/
inductive FInDrop where
  | staleEcho | returned | address | unclaimedPass | kind | noTaker | upstreamFull
  deriving DecidableEq, Repr

/-- Drop reasons at S-in (Table 9-3). -/
inductive SInDrop where
  | address | kind | mgmtOverflow | starting | length | broadcast | loopNotReady | guideRefused | switchRefused | rotorRefused
  | passOverflow
  deriving DecidableEq, Repr

/-- The six totals of a receiving port, in the order of Tables 1-8 and 9-3. -/
structure PortTotals where
  good : Counter
  checkErrors : Counter
  formatErrors : Counter
  forwarded : Counter
  consumed : Counter
  dropped : Counter
  deriving DecidableEq, Repr

/-- F-out counters (Table 1-8). -/
structure FOutCounters where
  sentUrgent : Counter
  sentEngine : Counter
  sentPass : Counter
  purged : Counter
  deriving DecidableEq, Repr

/-- S-out counters (R165). -/
structure SOutCounters where
  replies : Counter
  events : Counter
  reports : Counter
  refused : Counter
  deriving DecidableEq, Repr

/-- Block counters (R171). -/
structure BlockCounters where
  ambientAccepted : Counter
  ambientRejected : Counter
  runsDeferred : Counter
  cueDiscarded : Counter
  deriving DecidableEq, Repr

/-- Every counter of the part; they are cleared only together (R19, R162). -/
structure Counters where
  sIn : PortTotals
  sInDrops : Vector Counter 11
  fIn : PortTotals
  fInDrops : Vector Counter 7
  fOut : FOutCounters
  sOut : SOutCounters
  block : BlockCounters
  deriving DecidableEq, Repr

/-! ## Input Filter (Chapter 2) -/

/-- Table 2-3; `raw` and `filtered` are true when active, `fresh` when FRESH. -/
structure SensorState where
  raw : Bool
  filtered : Bool
  fresh : Bool
  timer : Timer
  deriving DecidableEq, Repr

/-- Detection of a block: the names of Table 2-5, listed in the order of R37 (log entry 36). -/
inductive Detection where
  | clear | occupied | unknown
  deriving DecidableEq, Repr

/-- Indication of a turnout (Table 2-7). -/
inductive Indication where
  | unknown | normal | reverse | both | none
  deriving DecidableEq, Repr

/-- The Input Filter's view of a block (R30). -/
structure BlockView where
  detection : Detection
  fullyFresh : Bool
  deriving DecidableEq, Repr

/-- The Input Filter's dynamic state (R23, R30, R32). -/
structure InputFilter where
  entries : Vector SensorState 128
  blocks : Vector BlockView 48
  turnouts : Vector Indication 16
  deriving DecidableEq, Repr

/-! ## Interlocking (Chapter 3) -/

/-- Role of a held block (R37). -/
inductive Role where
  | occupied | reserved
  deriving DecidableEq, Repr

/-- Crossing state of a block (R48). -/
inductive CrossingState where
  | idle | warning | active
  deriving DecidableEq, Repr

/-- R37 and R48. The role is present exactly when a holder is, so the two are kept as one optional pair. -/
structure BlockState where
  holding : Option (TrainId × Role)
  detection : Detection
  intruded : Bool
  crossing : CrossingState
  warnTimer : Timer
  deriving DecidableEq, Repr

/-- State of a turnout (R39). -/
inductive TurnoutCondition where
  | free | moving | set | fault
  deriving DecidableEq, Repr

/-- R39. `position` is `none` for UNKNOWN, `commanded` is `none` before the first throw. -/
structure TurnoutState where
  condition : TurnoutCondition
  position : Option Position
  commanded : Option Position
  lock : Option TrainId
  throwTimer : Timer
  indication : Indication
  deriving DecidableEq, Repr

/-- R46. -/
structure TrainPath where
  occupied : List BlockId
  reserved : List BlockId
  authorised : Nat
  deriving DecidableEq, Repr

/-- Source of a dispatch request (R52). -/
inductive RequestSource where
  | mgmt | cue | buttonCue
  deriving DecidableEq, Repr

/-- A pending request of the Route Queue (R52). -/
structure RouteRequest where
  train : TrainId
  route : RouteId
  waitLimit : Nat
  source : RequestSource
  waitTimer : Timer
  deriving DecidableEq, Repr

/-- The Interlocking's state. `serviceDue` is the MODEL's own: a cause of R53 has arisen and the Route Queue has not been served for it yet;
it is no whenever no command is being carried out (log entry 6). -/
structure Interlocking where
  blocks : Vector BlockState 48
  turnouts : Vector TurnoutState 16
  paths : Vector TrainPath 8
  queue : List RouteRequest
  serviceDue : Bool
  deriving DecidableEq, Repr

/-! ## Motion Engine (Chapter 4) -/

/-- Table 4-3. -/
inductive TrainCondition where
  | absent | lost | stopped | running | braking | halted
  deriving DecidableEq, Repr

/-- Table 4-2, halt cause. -/
inductive HaltCause where
  | loop | overrun | intrusion | miss | node | length | stopAll
  deriving DecidableEq, Repr

/-- Direction of a ramp's last change (Tables 4-2, 7-2). -/
inductive RampDirection where
  | up | down | none
  deriving DecidableEq, Repr

/-- A pending speed measurement (Table 4-2, R91, R92). -/
structure Calibration where
  block : BlockId
  step : Nat
  entryTime : Option Nat
  updates : Nat
  deriving DecidableEq, Repr

/-- Table 4-2. -/
structure TrainRecord where
  condition : TrainCondition
  cause : Option HaltCause
  step : Nat
  target : Nat
  guided : Nat
  permitted : Nat
  accumulator : Nat
  ramp : RampDirection
  position : Nat
  carry : Nat
  unseen : Nat
  missAllowance : Nat
  guideTimer : Timer
  refreshTimer : Timer
  armed : Bool
  calibration : Option Calibration
  deriving DecidableEq, Repr

/-- The Motion Engine's state: its update timer and the eight records. -/
structure MotionEngine where
  updateTimer : Timer
  trains : Vector TrainRecord 8
  deriving DecidableEq, Repr

/-! ## Day Clock (Chapter 5) -/

/-- Table 5-1. -/
structure DayClock where
  virtualTime : Nat
  day : Nat
  rate : Nat
  fraction : Nat
  slew : Option Int
  sky : Nat
  ambient : Nat
  lastRatio : Nat
  lastCurve : Nat
  ambientStale : Bool
  ambientTimer : Timer
  tickTimer : Timer
  deriving DecidableEq, Repr

/-! ## Lamp Engine (Chapter 6) -/

/-- Table 6-3; `lit` is the STREET state, true for ON. -/
structure ChannelState where
  lit : Bool
  staggerTimer : Timer
  override : Option Nat
  overrideTimer : Timer
  showValue : Nat
  target : Nat
  output : Nat
  emitted : Nat
  offered : Option Nat
  deriving DecidableEq, Repr

/-- The Lamp Engine's state. -/
structure LampEngine where
  channels : Vector ChannelState 192
  flashCount : Nat
  restatementCount : Nat
  refreshTimer : Timer
  deriving DecidableEq, Repr

/-! ## Rotor Unit (Chapter 7) -/

/-- Table 7-3. -/
inductive RotorCondition where
  | unhomed | homing | stopped | running | stopping | halted
  deriving DecidableEq, Repr

/-- Table 7-2, halt cause. -/
inductive RotorCause where
  | stall | loop | node | stopAll | requested
  deriving DecidableEq, Repr

/-- Table 7-2. -/
structure RotorRecord where
  condition : RotorCondition
  cause : Option RotorCause
  step : Nat
  target : Nat
  pendingTarget : Option Nat
  accumulator : Nat
  ramp : RampDirection
  runTime : Nat
  indexSeen : Bool
  lastLap : Option Nat
  phase : Option Nat
  lapRenewed : Bool
  lapOverrun : Bool
  revolutions : Nat
  refreshTimer : Timer
  deriving DecidableEq, Repr

/-- The Rotor Unit's state. -/
structure RotorUnit where
  updateTimer : Timer
  rotors : Vector RotorRecord 4
  deriving DecidableEq, Repr

/-! ## Cue Engine (Chapter 8) -/

/-- Table 8-4, stage. -/
inductive CueStage where
  | disabled | waitA | waitB | holdOff
  deriving DecidableEq, Repr

/-- Table 8-4, open half. -/
inductive OpenHalf where
  | a | b
  deriving DecidableEq, Repr

/-- Origin of a firing (R151). -/
inductive Origin where
  | button | other
  deriving DecidableEq, Repr

/-- Table 8-4; the stamp is a day number and a virtual second. -/
structure CueProgress where
  stage : CueStage
  count : Nat
  openHalf : Option OpenHalf
  windowTimer : Timer
  holdOffTimer : Timer
  fireCount : Nat
  stamp : Option (Nat × Nat)
  deriving DecidableEq, Repr

/-- An event of the pending list (R144). A CUE_FIRED carries its chain depth and origin (R150, R151); of every other event they are not read. -/
structure CueEvent where
  trigger : CueTrigger
  depth : Nat
  origin : Origin
  deriving DecidableEq, Repr

/-- The Cue Engine's state. -/
structure CueEngine where
  progress : Vector CueProgress 64
  pendingEvents : List CueEvent
  deriving DecidableEq, Repr

/-! ## Show Link Port, Management Unit, Report Unit, Settings Store (Chapters 9 and 10) -/

/-- The sending side of the Show Link Port (R163, R165). -/
structure ShowLink where
  upstream : List Frame
  transmitting : Option Frame
  deriving DecidableEq, Repr

/-- Part mode (Table 0-6, Section 10.2). -/
inductive PartMode where
  | starting | hold | run | holding
  deriving DecidableEq, Repr

/-- The Management Unit: the part mode and the payloads of the MGMT frames in the intake, oldest first (R166, R168). -/
structure Management where
  mode : PartMode
  intake : List (List Byte)
  deriving DecidableEq, Repr

/-- Event kinds of the Report Unit, in the order of Table 10-4 (R182). -/
inductive EventKind where
  | loopDown | loopUp | nodeMissing | nodeFault | passOverflow
  | routeGranted | routeTimeout | routeRefused | blockStray | turnoutFault | switchRefused
  | trainHalted | trainLost | trainArrived | earlyEntry | guideTimeout | calDone | calClamped
  | clockJumped | slewDone | ambientStale
  | rotorHomed | rotorStopped | rotorHalted
  | cueFired | cueActionRefused | cueChainLimit | cueReport
  | holdReached
  | storeDone | storeFailed | storeInvalid
  deriving DecidableEq, Repr

/-- The Report Unit's latched flags: kind k at bit k, and REPORT_OVERFLOW (R172, R173). -/
structure ReportUnit where
  flags : BitVec 32
  overflow : Bool
  deriving DecidableEq, Repr

/-- The load that STARTING waits for (R174, R176). -/
inductive LoadKind where
  | startUp | restore
  deriving DecidableEq, Repr

/-- The non-volatile image: the tables, whether the CRC over them matches, and the validity mark (Section 10.5). -/
structure Image where
  tables : Tables
  crcMatches : Bool
  mark : Bool
  deriving DecidableEq, Repr

/-- The Settings Store. `writing` is the copy a store operation writes: the store state is BUSY exactly while it is present (R175). -/
structure SettingsStore where
  image : Image
  writing : Option Tables
  loading : Option LoadKind
  deriving DecidableEq, Repr

/-! ## The part -/

/-- The whole part. `now` counts the ms of the part's time base that the Day Clock's timer has marked (log entry 5); `pending` is the queue
of commands that wait, first in, first out. -/
structure State where
  tables : Tables
  field : FieldPort
  loop : LoopMonitor
  counters : Counters
  filter : InputFilter
  interlock : Interlocking
  motion : MotionEngine
  clock : DayClock
  lamps : LampEngine
  rotors : RotorUnit
  cues : CueEngine
  link : ShowLink
  mgmt : Management
  report : ReportUnit
  store : SettingsStore
  now : Nat
  pending : List Instr
  deriving DecidableEq, Repr

/-- The reasons a step can stop with a fault: none. The manual names no condition that stops the part, so the type has no constructor. -/
inductive Fault where
  deriving DecidableEq, Repr

/-- The reasons a step can be refused. -/
inductive Refusal where
  /-- Raised by `exec`'s arm of a command that has no meaning yet; safe, since nothing is claimed of such a command. No arm raises it. -/
  | notModelled (mnemonic : String)
  deriving DecidableEq, Repr

/-! ## Defaults of the tables (the image invalid) and values after power-on -/

/-- R36. -/
def defaultBlock : BlockEntry := { enabled := false, crossing := false, length := 50, speedCap := 1, warnTime := 0 }

/-- R38; node, channel and block by log entry 7. -/
def defaultTurnout : TurnoutEntry :=
  { enabled := false, feedback := false, node := 1, channel := 0, block := 0, throwLimit := 100 }

/-- R51; the fields of the disabled entry by log entry 7. -/
def defaultRoute : RouteEntry := { enabled := false, start := 0, cruise := 1, blocks := [1], turnouts := [] }

/-- R67. -/
def defaultTrain : TrainEntry :=
  { enabled := false, direction := .forward, mode := .auto, node := 1, channel := 0, speedScale := 1, acceleration := 1,
    deceleration := 1, stopMargin := 0, startStep := 0, missDistance := 10, earlyTolerance := 0, guideTimeout := 0, home := none }

/-- R174; the fields of the disabled entry by log entry 7, the function OCCUPANCY of block 0 that check 5 of R21 then finds present among
them. -/
def defaultSensor : SensorEntry :=
  { enabled := false, invert := false, node := 1, input := 0, function := .occupancy 0, filterTime := 0 }

/-- Table 1-1. -/
def defaultLoop : LoopConfig := { echoInterval := 50, passThreshold := 4, errorThreshold := 8 }

/-- R18. -/
def defaultPolicy : PolicyEntry := { forwardSense := false, forwardLightcount := false, forwardNodeFault := false }

/-- R109. -/
def defaultPatch : PatchEntry :=
  { mapped := false, node := 1, nodeChannel := 0, ownership := .show, kind := .cue, onValue := 0, ceiling := 255, fadeStep := 0,
    ambientWeight := 0 }

/-- Table 5-2. -/
def defaultClock : ClockConfig :=
  { startTime := 28800, startRate := 16, ambientNode := 0, ambientDefault := 500, ambientTimeout := 10 }

/-- R130. -/
def defaultRotor : RotorEntry :=
  { enabled := false, direction := .forward, node := 1, channel := 0, maxStep := 1, creepStep := 1, acceleration := 1,
    indexEntry := 0, stallLimit := 500 }

/-- R142. -/
def defaultCue : CueEntry :=
  { enabled := false, oneShot := false, stampMode := .first, mode := .countA, count := 1, triggerA := .loopUp, triggerB := none,
    window := 1, holdOff := 0, actions := [.report 0] }

/-- Every table at its default (R174). -/
def defaultTables : Tables :=
  { blocks := Vector.replicate 48 defaultBlock
    turnouts := Vector.replicate 16 defaultTurnout
    routes := Vector.replicate 32 defaultRoute
    trains := Vector.replicate 8 defaultTrain
    sensors := Vector.replicate 128 defaultSensor
    loop := defaultLoop
    policy := Vector.replicate 96 defaultPolicy
    patch := Vector.replicate 192 defaultPatch
    sky := [(0, 0), (720, 1000)]
    ambient := [(0, 0), (8000, 1000)]
    clock := defaultClock
    rotors := Vector.replicate 4 defaultRotor
    cues := Vector.replicate 64 defaultCue
    mask := 0 }

/-- F-out after every reset (R10, R11, R13, R14, R20). -/
def FieldPort.initial : FieldPort :=
  { urgent := [], engine := [], pass := [], servedLast := .pass, transmitting := none, missing := 0 }

/-- R2. -/
def LoopMonitor.initial : LoopMonitor :=
  { state := .down, echoNumber := 0, echoOutstanding := false, goodCount := 0, errorCount := 0, intervalTimer := none, watchdog := none,
    downCause := none }

/-- Totals of a receiving port after every reset. -/
def PortTotals.zero : PortTotals :=
  { good := 0, checkErrors := 0, formatErrors := 0, forwarded := 0, consumed := 0, dropped := 0 }

/-- Every counter at 0 (R19, R108, R129, R144, R162, R165). -/
def Counters.zero : Counters :=
  { sIn := PortTotals.zero
    sInDrops := Vector.replicate 11 0
    fIn := PortTotals.zero
    fInDrops := Vector.replicate 7 0
    fOut := { sentUrgent := 0, sentEngine := 0, sentPass := 0, purged := 0 }
    sOut := { replies := 0, events := 0, reports := 0, refused := 0 }
    block := { ambientAccepted := 0, ambientRejected := 0, runsDeferred := 0, cueDiscarded := 0 } }

/-- A Sensor Map entry's dynamic state after every reset and write (R22, R23). -/
def SensorState.initial : SensorState := { raw := false, filtered := false, fresh := false, timer := none }

/-- The Input Filter after every reset (R23, R30, R32). -/
def InputFilter.initial : InputFilter :=
  { entries := Vector.replicate 128 SensorState.initial
    blocks := Vector.replicate 48 { detection := .unknown, fullyFresh := false }
    turnouts := Vector.replicate 16 .unknown }

/-- A block after every reset (R37, R48). -/
def BlockState.initial : BlockState :=
  { holding := none, detection := .unknown, intruded := false, crossing := .idle, warnTimer := none }

/-- A turnout after every reset (R39). -/
def TurnoutState.initial : TurnoutState :=
  { condition := .free, position := none, commanded := none, lock := none, throwTimer := none, indication := .unknown }

/-- A train's path after every reset (R46). -/
def TrainPath.initial : TrainPath := { occupied := [], reserved := [], authorised := 0 }

/-- The Interlocking after every reset (R37, R39, R46, R48, R52). -/
def Interlocking.initial : Interlocking :=
  { blocks := Vector.replicate 48 BlockState.initial
    turnouts := Vector.replicate 16 TurnoutState.initial
    paths := Vector.replicate 8 TrainPath.initial
    queue := []
    serviceDue := false }

/-- A train's record after every reset, under its Train Table entry (R68). -/
def TrainRecord.initial (e : TrainEntry) : TrainRecord :=
  { condition := if e.enabled then .lost else .absent
    cause := none, step := 0, target := 0, guided := 0, permitted := 0, accumulator := 0, ramp := .none, position := 0, carry := 0,
    unseen := 0, missAllowance := e.missDistance * 1000, guideTimer := none, refreshTimer := none, armed := e.enabled,
    calibration := none }

/-- The Motion Engine after every reset (R68). -/
def MotionEngine.initial (ts : Tables) : MotionEngine :=
  { updateTimer := none, trains := tabulate fun t => TrainRecord.initial ts.trains[t] }

/-- A channel after power-on (R110). -/
def ChannelState.initial : ChannelState :=
  { lit := false, staggerTimer := none, override := none, overrideTimer := none, showValue := 0, target := 0, output := 0, emitted := 0,
    offered := none }

/-- The Lamp Engine after power-on (R110). -/
def LampEngine.initial : LampEngine :=
  { channels := Vector.replicate 192 ChannelState.initial, flashCount := 0, restatementCount := 0, refreshTimer := none }

/-- A rotor's record after every reset (R131). -/
def RotorRecord.initial : RotorRecord :=
  { condition := .unhomed, cause := none, step := 0, target := 0, pendingTarget := none, accumulator := 0, ramp := .none, runTime := 0,
    indexSeen := false, lastLap := none, phase := none, lapRenewed := false, lapOverrun := false, revolutions := 0,
    refreshTimer := none }

/-- The Rotor Unit after every reset (R131). -/
def RotorUnit.initial : RotorUnit := { updateTimer := none, rotors := Vector.replicate 4 RotorRecord.initial }

/-- A cue's progress set anew, under its Cue Table entry (R142, R143). -/
def CueProgress.initial (e : CueEntry) : CueProgress :=
  { stage := if e.enabled then .waitA else .disabled, count := 0, openHalf := none, windowTimer := none, holdOffTimer := none,
    fireCount := 0, stamp := none }

/-- The Cue Engine after every reset (R143). -/
def CueEngine.initial (ts : Tables) : CueEngine :=
  { progress := tabulate fun k => CueProgress.initial ts.cues[k], pendingEvents := [] }

/-- The Day Clock after power-on under the defaults of Table 5-2 (R94, R107): 08:00:00, day 0, rate 16. The Sky Curve's default gives 666 at
08:00:00 (R102, R103). -/
def DayClock.initial : DayClock :=
  { virtualTime := 28800000, day := 0, rate := 16, fraction := 0, slew := none, sky := 666, ambient := 500, lastRatio := 0, lastCurve := 0,
    ambientStale := false, ambientTimer := none, tickTimer := none }

/-- The part right after power-on, with no stored image: part mode STARTING, the load begun, every block at its power-on values and every
table at its default (R174, log entries 8 and 9). The command queue is empty. -/
def State.reset : State :=
  { tables := defaultTables
    field := FieldPort.initial
    loop := LoopMonitor.initial
    counters := Counters.zero
    filter := InputFilter.initial
    interlock := Interlocking.initial
    motion := MotionEngine.initial defaultTables
    clock := DayClock.initial
    lamps := LampEngine.initial
    rotors := RotorUnit.initial
    cues := CueEngine.initial defaultTables
    link := { upstream := [], transmitting := none }
    mgmt := { mode := .starting, intake := [] }
    report := { flags := 0, overflow := false }
    store := { image := { tables := defaultTables, crcMatches := false, mark := false }, writing := none, loading := some .startUp }
    now := 0
    pending := [] }

end Sys2Proof.Machine
end

