-- ==== Sys2Proof/Machine/Operands.lean ====
section
/-!
DEFINITION. Chapter 11: the byte formats of the part. Numbers, optional values and named values (R179), the frame with its CRC (R178),
the payloads of the frame kinds (Table 11-2), the management requests (R180) and the table entries (R183).
-/

namespace Sys2Proof.Machine

/-! ## Fields (R179) -/

/-- A number in `w` bytes, most significant first. -/
def num : Nat → Nat → List Byte
  | 0, _ => []
  | w + 1, v => BitVec.ofNat 8 (v / 256 ^ w) :: num w v

/-- The number that a run of bytes holds, most significant first. -/
def numOf (bs : List Byte) : Nat := bs.foldl (fun n b => n * 256 + b.toNat) 0

/-- An optional number: every bit set when absent. -/
def optNum (w : Nat) : Option Nat → List Byte
  | none => List.replicate w 0xFF
  | some v => num w v

/-- One byte that holds a number. -/
def byte (v : Nat) : Byte := BitVec.ofNat 8 v

/-- Yes-or-no items packed from bit 0 in the order listed. -/
def packBits : List Bool → Nat
  | [] => 0
  | b :: bs => (if b then 1 else 0) + 2 * packBits bs

/-- Yes-or-no items packed into one byte. -/
def flagByte (bs : List Bool) : Byte := byte (packBits bs)

/-- An index of a range of `n`. -/
def finOf (n k : Nat) : Option (Fin n) := if h : k < n then some ⟨k, h⟩ else none

/-- A value within a range, or none. -/
def ranged (lo hi v : Nat) : Option Nat := if lo ≤ v ∧ v ≤ hi then some v else none

/-- Consecutive pieces of `size` bytes of a run; a shorter rest is the last piece. The first argument bounds the number of pieces. -/
def chunks : Nat → Nat → List Byte → List (List Byte)
  | 0, _, _ => []
  | _ + 1, _, [] => []
  | n + 1, size, bs => bs.take size :: chunks n size (bs.drop size)

/-- The byte at an offset; 0 past the end. -/
def at0 (bs : List Byte) (i : Nat) : Byte := bs.getD i 0

/-- The value of the byte at an offset. -/
def n1 (bs : List Byte) (i : Nat) : Nat := (at0 bs i).toNat

/-- The value of the two bytes at an offset. -/
def n2 (bs : List Byte) (i : Nat) : Nat := n1 bs i * 256 + n1 bs (i + 1)

/-- The value of the three bytes at an offset. -/
def n3 (bs : List Byte) (i : Nat) : Nat := n2 bs i * 256 + n1 bs (i + 2)

/-- A bit of the byte at an offset. -/
def bitAt (bs : List Byte) (i k : Nat) : Bool := (at0 bs i).getLsbD k

/-! ## The frame (R178) -/

/-- One shift of the CRC register. -/
def crcShift (r : BitVec 16) : BitVec 16 := if r.msb then (r <<< 1) ^^^ 0x1021 else r <<< 1

/-- One character taken into the CRC register. -/
def crcChar (r : BitVec 16) (c : Byte) : BitVec 16 :=
  crcShift (crcShift (crcShift (crcShift (crcShift (crcShift (crcShift (crcShift (r ^^^ (c.setWidth 16 <<< 8)))))))))

/-- The CRC over a run of characters. -/
def crc (cs : List Byte) : BitVec 16 := cs.foldl crcChar 0xFFFF

/-- The two characters of CHECK over a run, high byte first. -/
def checkOf (cs : List Byte) : List Byte := num 2 (crc cs).toNat

/-- DEST through PAYLOAD of a frame (Table 11-1). -/
def Frame.body (f : Frame) : List Byte := f.dest :: f.src :: f.kind :: byte f.payload.length :: f.payload

/-- The characters of a frame on a link, CHECK included (Table 11-1). -/
def Frame.wire (f : Frame) : List Byte := f.body ++ checkOf f.body

/-- What a receiving port makes of the characters that line idle ended (R178). -/
inductive Judgement where
  | formatError
  | checkError
  | good (f : Frame)
  deriving DecidableEq, Repr

/-- R178: the tests of a receiving port, in their order. -/
def judge : List Byte → Judgement
  | d :: s :: k :: l :: rest =>
    if 127 < d.toNat ∨ 127 < s.toNat ∨ 48 < l.toNat then .formatError
    else if rest.length ≠ l.toNat + 2 then .formatError
    else if rest.drop l.toNat = checkOf (d :: s :: k :: l :: rest.take l.toNat) then
      .good { dest := d, src := s, kind := k, payload := rest.take l.toNat }
    else .checkError
  | _ => .formatError

/-! ## Frame kinds (Table 11-2) -/

def kindEcho : Byte := 0x01
def kindDrive : Byte := 0x10
def kindAllStop : Byte := 0x11
def kindLevel : Byte := 0x20
def kindSwitch : Byte := 0x30
def kindRotor : Byte := 0x40
def kindSenseRequest : Byte := 0x50
def kindSense : Byte := 0x51
def kindLightcount : Byte := 0x52
def kindNodeFault : Byte := 0x5F
def kindMgmt : Byte := 0x70
def kindReply : Byte := 0x71
def kindEvent : Byte := 0x72

/-- A frame the part originates: SRC 0. -/
def ownFrame (dest : Nat) (kind : Byte) (payload : List Byte) : Frame :=
  { dest := byte dest, src := byte Config.partAddress, kind := kind, payload := payload }

/-- Code of a position in a SWITCH payload and in a Route Table entry. -/
def Position.code : Position → Nat
  | .normal => 0
  | .reverse => 1

/-- A SWITCH payload's position: 0 is NORMAL, any other value is read as REVERSE (Table 11-2). -/
def Position.ofSwitch (b : Byte) : Position := if b = 0 then .normal else .reverse

/-- Code of a direction. -/
def Direction.code : Direction → Nat
  | .forward => 0
  | .reverse => 1

/-- The direction that a bit of a table entry holds. -/
def Direction.ofBit (b : Bool) : Direction := if b then .reverse else .forward

/-- The ECHO of a number (R3). -/
def echoFrame (number : Byte) : Frame := ownFrame Config.partAddress kindEcho [number]

/-- The ALLSTOP of R6, R85 and R177. -/
def allStopFrame : Frame := ownFrame Config.broadcastAddress kindAllStop []

/-- The SENSE_REQUEST of R7. -/
def senseRequestFrame : Frame := ownFrame Config.broadcastAddress kindSenseRequest []

/-- A DRIVE under a Train Table entry (R75, R83): bit 0 direction, bit 1 the emergency flag. -/
def driveFrame (e : TrainEntry) (step : Nat) (emergency : Bool) : Frame :=
  ownFrame e.node kindDrive [byte e.channel, flagByte [e.direction = .reverse, emergency], byte step]

/-- A SWITCH under a Turnout Table entry (R40). -/
def switchFrame (e : TurnoutEntry) (p : Position) : Frame := ownFrame e.node kindSwitch [byte e.channel, byte p.code]

/-- A ROTOR frame under a Rotor Table entry (R137). -/
def rotorFrame (e : RotorEntry) (step : Nat) : Frame :=
  ownFrame e.node kindRotor [byte e.channel, flagByte [e.direction = .reverse], byte step]

/-- A LEVEL frame of a run (R124). -/
def levelFrame (node first : Nat) (levels : List Nat) : Frame := ownFrame node kindLevel (byte first :: levels.map byte)

/-! ## Statuses (Table 11-4) -/

/-- Table 10-1. -/
inductive Status where
  | ok | accepted | busy | wrongMode | notReady | badIndex | badValue | badLength | duplicate | inUse | notAvailable | unknownRequest
  deriving DecidableEq, Repr

/-- Table 11-4. -/
def Status.code : Status → Nat
  | .ok => 0 | .accepted => 1 | .busy => 2 | .wrongMode => 3 | .notReady => 4 | .badIndex => 5
  | .badValue => 6 | .badLength => 7 | .duplicate => 8 | .inUse => 9 | .notAvailable => 10 | .unknownRequest => 11

/-- A success of a cue action (R152). -/
def Status.isSuccess : Status → Bool
  | .ok => true
  | .accepted => true
  | _ => false

/-- A REPLY (R166, R181). -/
def replyFrame (tag : Byte) (status : Status) (result : List Byte) : Frame :=
  ownFrame Config.hostAddress kindReply (tag :: byte status.code :: result)

/-! ## Management requests (R180) -/

/-- Table 11-3, request codes. -/
def requestCode : Request → Byte
  | .identify => 1
  | .readTable .. => 2
  | .writeTable .. => 3
  | .readState .. => 4
  | .readFlags => 5
  | .writeMask _ => 6
  | .readCounters _ => 7
  | .clearCounters => 8
  | .setMode _ => 9
  | .stopAll => 10
  | .dispatch .. => 11
  | .cancelRequest _ => 12
  | .setTrainMode .. => 13
  | .locate .. => 14
  | .remove _ => 15
  | .clearHalt _ => 16
  | .reverse _ => 17
  | .calibrate .. => 18
  | .cancelCalibration _ => 19
  | .turnoutRetry _ => 20
  | .clearBlock _ => 21
  | .rotorStart .. => 22
  | .rotorStop _ => 23
  | .rotorHalt _ => 24
  | .clearRotor _ => 25
  | .clockSet .. => 26
  | .clockRate _ => 27
  | .cueFire _ => 28
  | .cueEnable _ => 29
  | .cueDisable _ => 30
  | .cueResetStamp _ => 31
  | .store => 32
  | .restore => 33
  | .restart => 34

/-- The bytes of a wider bit vector, most significant first. -/
def word16Bytes (v : BitVec 16) : List Byte := [v.extractLsb' 8 8, v.extractLsb' 0 8]
def word24Bytes (v : BitVec 24) : List Byte := [v.extractLsb' 16 8, v.extractLsb' 8 8, v.extractLsb' 0 8]
def word32Bytes (v : BitVec 32) : List Byte := [v.extractLsb' 24 8, v.extractLsb' 16 8, v.extractLsb' 8 8, v.extractLsb' 0 8]

/-- Table 11-3, arguments. -/
def requestArgs : Request → List Byte
  | .identify => []
  | .readTable t i n => [t, i, n]
  | .writeTable t i es => t :: i :: es
  | .readState b i n => [b, i, n]
  | .readFlags => []
  | .writeMask m => word32Bytes m
  | .readCounters g => [g]
  | .clearCounters => []
  | .setMode m => [m]
  | .stopAll => []
  | .dispatch t r w => t :: r :: word16Bytes w
  | .cancelRequest t => [t]
  | .setTrainMode t m => [t, m]
  | .locate t bs => t :: bs
  | .remove t => [t]
  | .clearHalt t => [t]
  | .reverse t => [t]
  | .calibrate t b s => [t, b, s]
  | .cancelCalibration t => [t]
  | .turnoutRetry u => [u]
  | .clearBlock b => [b]
  | .rotorStart r s => [r, s]
  | .rotorStop r => [r]
  | .rotorHalt r => [r]
  | .clearRotor r => [r]
  | .clockSet sec d m => word24Bytes sec ++ word16Bytes d ++ [m]
  | .clockRate q => word16Bytes q
  | .cueFire k => [k]
  | .cueEnable k => [k]
  | .cueDisable k => [k]
  | .cueResetStamp k => [k]
  | .store => []
  | .restore => []
  | .restart => []

/-- A request's MGMT payload: tag, code, arguments (Table 11-2). -/
def requestPayload (tag : Byte) (r : Request) : List Byte := tag :: requestCode r :: requestArgs r

/-- The request codes the part knows (R180). -/
def knownRequestCode (code : Byte) : Bool := 1 ≤ code.toNat ∧ code.toNat ≤ 34

/-- The request that a known code and its arguments spell; none where the arguments are not of the length the code calls for (R167 check 4). A
WRITE TABLE with fewer than 2 argument bytes, or a LOCATE with none, spells no request and is judged by its own rule (`shortStatus`). -/
def requestOf (code : Byte) (args : List Byte) : Option Request :=
  match code.toNat, args with
  | 1, [] => some .identify
  | 2, [t, i, n] => some (.readTable t i n)
  | 3, t :: i :: es => some (.writeTable t i es)
  | 4, [b, i, n] => some (.readState b i n)
  | 5, [] => some .readFlags
  | 6, [a, b, c, d] => some (.writeMask (a ++ b ++ c ++ d))
  | 7, [g] => some (.readCounters g)
  | 8, [] => some .clearCounters
  | 9, [m] => some (.setMode m)
  | 10, [] => some .stopAll
  | 11, [t, r, h, l] => some (.dispatch t r (h ++ l))
  | 12, [t] => some (.cancelRequest t)
  | 13, [t, m] => some (.setTrainMode t m)
  | 14, t :: bs => some (.locate t bs)
  | 15, [t] => some (.remove t)
  | 16, [t] => some (.clearHalt t)
  | 17, [t] => some (.reverse t)
  | 18, [t, b, s] => some (.calibrate t b s)
  | 19, [t] => some (.cancelCalibration t)
  | 20, [u] => some (.turnoutRetry u)
  | 21, [b] => some (.clearBlock b)
  | 22, [r, s] => some (.rotorStart r s)
  | 23, [r] => some (.rotorStop r)
  | 24, [r] => some (.rotorHalt r)
  | 25, [r] => some (.clearRotor r)
  | 26, [a, b, c, h, l, m] => some (.clockSet (a ++ b ++ c) (h ++ l) m)
  | 27, [h, l] => some (.clockRate (h ++ l))
  | 28, [k] => some (.cueFire k)
  | 29, [k] => some (.cueEnable k)
  | 30, [k] => some (.cueDisable k)
  | 31, [k] => some (.cueResetStamp k)
  | 32, [] => some .store
  | 33, [] => some .restore
  | 34, [] => some .restart
  | _, _ => none

/-! ## Table entries (R183)

Each `decode` reads the bytes of one whole entry and answers none where a field is outside its range; unused bits and bytes are ignored.
Each `encode` gives the bytes READ TABLE returns, unused bits and bytes 0. -/

def BlockEntry.encode (e : BlockEntry) : List Byte :=
  flagByte [e.enabled, e.crossing] :: num 2 e.length ++ [byte e.speedCap] ++ num 2 e.warnTime

def BlockEntry.decode (bs : List Byte) : Option BlockEntry := do
  let length ← ranged 50 8000 (n2 bs 1)
  let speedCap ← ranged 1 126 (n1 bs 3)
  let warnTime ← ranged 0 10000 (n2 bs 4)
  some { enabled := bitAt bs 0 0, crossing := bitAt bs 0 1, length, speedCap, warnTime }

def TurnoutEntry.encode (e : TurnoutEntry) : List Byte :=
  [flagByte [e.enabled, e.feedback], byte e.node, byte e.channel, byte e.block.val] ++ num 2 e.throwLimit

def TurnoutEntry.decode (bs : List Byte) : Option TurnoutEntry := do
  let node ← ranged 1 96 (n1 bs 1)
  let channel ← ranged 0 15 (n1 bs 2)
  let block ← finOf 48 (n1 bs 3)
  let throwLimit ← ranged 100 5000 (n2 bs 4)
  some { enabled := bitAt bs 0 0, feedback := bitAt bs 0 1, node, channel, block, throwLimit }

/-- The code 0 NORMAL, 1 REVERSE of a Route Table pair. -/
def Position.ofCode (n : Nat) : Option Position :=
  match n with
  | 0 => some .normal
  | 1 => some .reverse
  | _ => none

def RouteEntry.encode (e : RouteEntry) : List Byte :=
  [flagByte [e.enabled], byte e.start.val, byte e.cruise, byte e.blocks.length]
    ++ e.blocks.map (fun b => byte b.val) ++ List.replicate (8 - e.blocks.length) 0
    ++ [byte e.turnouts.length]
    ++ e.turnouts.flatMap (fun p => [byte p.1.val, byte p.2.code]) ++ List.replicate (12 - 2 * e.turnouts.length) 0

def RouteEntry.decode (bs : List Byte) : Option RouteEntry := do
  let start ← finOf 48 (n1 bs 1)
  let cruise ← ranged 1 126 (n1 bs 2)
  let count ← ranged 1 8 (n1 bs 3)
  let blocks ← (List.range count).mapM fun i => finOf 48 (n1 bs (4 + i))
  let pairs ← ranged 0 6 (n1 bs 12)
  let turnouts ← (List.range pairs).mapM fun i => do
    let u ← finOf 16 (n1 bs (13 + 2 * i))
    let p ← Position.ofCode (n1 bs (14 + 2 * i))
    some (u, p)
  some { enabled := bitAt bs 0 0, start, cruise, blocks, turnouts }

def TrainEntry.encode (e : TrainEntry) : List Byte :=
  [flagByte [e.enabled, e.direction = .reverse, e.mode = .guided, e.home.isSome], byte e.node, byte e.channel, byte e.speedScale,
    byte e.acceleration, byte e.deceleration, byte e.stopMargin, byte e.startStep]
    ++ num 2 e.missDistance ++ num 2 e.earlyTolerance ++ num 2 e.guideTimeout
    ++ [match e.home with | none => 0 | some b => byte b.val]

def TrainEntry.decode (bs : List Byte) : Option TrainEntry := do
  let node ← ranged 1 96 (n1 bs 1)
  let channel ← ranged 0 7 (n1 bs 2)
  let speedScale ← ranged 1 255 (n1 bs 3)
  let acceleration ← ranged 1 250 (n1 bs 4)
  let deceleration ← ranged 1 250 (n1 bs 5)
  let startStep ← ranged 0 40 (n1 bs 7)
  let missDistance ← ranged 10 2000 (n2 bs 8)
  let earlyTolerance ← ranged 0 2000 (n2 bs 10)
  let guideTimeout ← if n2 bs 12 = 0 then some 0 else ranged 100 10000 (n2 bs 12)
  let home ← if bitAt bs 0 3 then (finOf 48 (n1 bs 14)).map some else some none
  some { enabled := bitAt bs 0 0, direction := Direction.ofBit (bitAt bs 0 1), mode := if bitAt bs 0 2 then .guided else .auto, node, channel,
         speedScale, acceleration, deceleration, stopMargin := n1 bs 6, startStep, missDistance, earlyTolerance, guideTimeout, home }

/-- Function code of a Sensor Map entry, in the order of Table 2-1. -/
def SensorFunction.code : SensorFunction → Nat
  | .occupancy _ => 0 | .button => 1 | .turnoutNormal _ => 2 | .turnoutReverse _ => 3 | .index _ => 4 | .spare => 5

/-- Subject of a Sensor Map entry, absent for BUTTON and SPARE. -/
def SensorFunction.subject : SensorFunction → Option Nat
  | .occupancy b => some b.val
  | .button => none
  | .turnoutNormal u => some u.val
  | .turnoutReverse u => some u.val
  | .index r => some r.val
  | .spare => none

/-- Function and subject from their bytes; the subject of BUTTON and SPARE must be absent (Table 2-1, log entry 20). -/
def SensorFunction.ofBytes (code subject : Nat) : Option SensorFunction :=
  match code with
  | 0 => (finOf 48 subject).map .occupancy
  | 1 => if subject = 255 then some .button else none
  | 2 => (finOf 16 subject).map .turnoutNormal
  | 3 => (finOf 16 subject).map .turnoutReverse
  | 4 => (finOf 4 subject).map .index
  | 5 => if subject = 255 then some .spare else none
  | _ => none

def SensorEntry.encode (e : SensorEntry) : List Byte :=
  [flagByte [e.enabled, e.invert], byte e.node, byte e.input, byte e.function.code] ++ optNum 1 e.function.subject ++ num 2 e.filterTime

def SensorEntry.decode (bs : List Byte) : Option SensorEntry := do
  let node ← ranged 1 96 (n1 bs 1)
  let input ← ranged 0 15 (n1 bs 2)
  let function ← SensorFunction.ofBytes (n1 bs 3) (n1 bs 4)
  let filterTime ← ranged 0 500 (n2 bs 5)
  some { enabled := bitAt bs 0 0, invert := bitAt bs 0 1, node, input, function, filterTime }

def LoopConfig.encode (e : LoopConfig) : List Byte := [byte e.echoInterval, byte e.passThreshold, byte e.errorThreshold]

def LoopConfig.decode (bs : List Byte) : Option LoopConfig := do
  let echoInterval ← ranged 10 250 (n1 bs 0)
  let passThreshold ← ranged 1 15 (n1 bs 1)
  let errorThreshold ← ranged 1 15 (n1 bs 2)
  some { echoInterval, passThreshold, errorThreshold }

def PolicyEntry.encode (e : PolicyEntry) : List Byte := [flagByte [e.forwardSense, e.forwardLightcount, e.forwardNodeFault]]

def PolicyEntry.decode (bs : List Byte) : Option PolicyEntry :=
  some { forwardSense := bitAt bs 0 0, forwardLightcount := bitAt bs 0 1, forwardNodeFault := bitAt bs 0 2 }

/-- Ownership codes of Table 11-9. -/
def Ownership.code : Ownership → Nat
  | .show => 0 | .engine => 1 | .merge => 2

/-- The ownership that bits 1 and 2 of a Patch Table entry hold; 3 is out of range. -/
def Ownership.ofBits (b1 b2 : Bool) : Option Ownership :=
  match b1, b2 with
  | false, false => some .show
  | true, false => some .engine
  | false, true => some .merge
  | true, true => none

/-- Aspect codes of Table 11-9. -/
def Aspect.code : Aspect → Nat
  | .proceed => 0 | .stop => 1

/-- Phase codes of Table 11-9. -/
def FlashPhase.code : FlashPhase → Nat
  | .a => 0 | .b => 1

/-- Kind codes in the order of Table 6-2. -/
def LampKind.code : LampKind → Nat
  | .skywash .. => 0 | .street .. => 1 | .window .. => 2 | .signal .. => 3 | .crossing .. => 4 | .headlight .. => 5 | .chase .. => 6 | .cue => 7

/-- Kind parameters in the order of Table 6-2, each at its R179 width. -/
def LampKind.params : LampKind → List Byte
  | .skywash low high => [byte low, byte high]
  | .street onLevel offLevel stagger => num 2 onLevel ++ num 2 offLevel ++ num 2 stagger
  | .window onMinute offMinute => num 2 onMinute ++ num 2 offMinute
  | .signal block shows => [byte block.val, byte shows.code]
  | .crossing block phase => [byte block.val, byte phase.code]
  | .headlight train onLevel => byte train.val :: num 2 onLevel
  | .chase rotor phaseFrom phaseTo => byte rotor.val :: num 2 phaseFrom ++ num 2 phaseTo
  | .cue => []

/-- Kind and parameters from their bytes, with the kind's own range rules (R109 check 1). -/
def LampKind.decode (code : Nat) (p : List Byte) : Option LampKind :=
  match code with
  | 0 => some (.skywash (n1 p 0) (n1 p 1))
  | 1 => do
    let onLevel ← ranged 0 1000 (n2 p 0)
    let offLevel ← ranged 0 1000 (n2 p 2)
    if onLevel < offLevel then some (.street onLevel offLevel (n2 p 4)) else none
  | 2 => do
    let onMinute ← ranged 0 1439 (n2 p 0)
    let offMinute ← ranged 0 1439 (n2 p 2)
    if onMinute = offMinute then none else some (.window onMinute offMinute)
  | 3 => do
    let block ← finOf 48 (n1 p 0)
    match n1 p 1 with
    | 0 => some (.signal block .proceed)
    | 1 => some (.signal block .stop)
    | _ => none
  | 4 => do
    let block ← finOf 48 (n1 p 0)
    match n1 p 1 with
    | 0 => some (.crossing block .a)
    | 1 => some (.crossing block .b)
    | _ => none
  | 5 => do
    let train ← finOf 8 (n1 p 0)
    let onLevel ← ranged 0 1000 (n2 p 1)
    some (.headlight train onLevel)
  | 6 => do
    let rotor ← finOf 4 (n1 p 0)
    let phaseFrom ← ranged 0 999 (n2 p 1)
    let phaseTo ← ranged 0 999 (n2 p 3)
    if phaseFrom = phaseTo then none else some (.chase rotor phaseFrom phaseTo)
  | 7 => some .cue
  | _ => none

def PatchEntry.encode (e : PatchEntry) : List Byte :=
  [flagByte [e.mapped, e.ownership = .engine, e.ownership = .merge], byte e.node, byte e.nodeChannel, byte e.kind.code]
    ++ e.kind.params ++ List.replicate (6 - e.kind.params.length) 0
    ++ [byte e.onValue, byte e.ceiling, byte e.fadeStep, byte e.ambientWeight]

def PatchEntry.decode (bs : List Byte) : Option PatchEntry := do
  let ownership ← Ownership.ofBits (bitAt bs 0 1) (bitAt bs 0 2)
  let node ← ranged 1 96 (n1 bs 1)
  let nodeChannel ← ranged 0 63 (n1 bs 2)
  let kind ← LampKind.decode (n1 bs 3) (bs.drop 4)
  some { mapped := bitAt bs 0 0, node, nodeChannel, ownership, kind, onValue := n1 bs 10, ceiling := n1 bs 11, fadeStep := n1 bs 12,
         ambientWeight := n1 bs 13 }

/-- The `w` low bits of a number, most significant first. -/
def bitsOf : Nat → Nat → List Bool
  | 0, _ => []
  | w + 1, v => v.testBit w :: bitsOf w v

/-- The number that a run of bits holds, most significant first. -/
def natOfBits (bs : List Bool) : Nat := bs.foldl (fun n b => 2 * n + if b then 1 else 0) 0

/-- Bytes from a run of bits, the last one padded with 0 bits; the first argument bounds the number of bytes. -/
def bytesOfBits : Nat → List Bool → List Byte
  | 0, _ => []
  | _ + 1, [] => []
  | n + 1, bs => byte (natOfBits (bs.take 8 ++ List.replicate (8 - (bs.take 8).length) false)) :: bytesOfBits n (bs.drop 8)

/-- Bytes after the count of a Sky Curve of n points: ⌈21n ÷ 8⌉. -/
def skyBytes (n : Nat) : Nat := (21 * n + 7) / 8

def encodeSky (points : List (Nat × Nat)) : List Byte :=
  byte points.length :: bytesOfBits (skyBytes points.length) (points.flatMap fun p => bitsOf 11 p.1 ++ bitsOf 10 p.2)

/-- Strictly ascending keys of a curve. -/
def strictlyAscending : List (Nat × Nat) → Bool
  | [] => true
  | [_] => true
  | p :: q :: rest => p.1 < q.1 && strictlyAscending (q :: rest)

/-- The point list of a Sky Curve entry, with the ranges of R102. -/
def decodeSky (bs : List Byte) : Option (List (Nat × Nat)) := do
  let count ← ranged 2 16 (n1 bs 0)
  let bits := bs.tail.flatMap fun b => bitsOf 8 b.toNat
  let points ← (List.range count).mapM fun i => do
    let minute ← ranged 0 1439 (natOfBits ((bits.drop (21 * i)).take 11))
    let level ← ranged 0 1000 (natOfBits ((bits.drop (21 * i + 11)).take 10))
    some (minute, level)
  if strictlyAscending points then some points else none

def encodeAmbient (points : List (Nat × Nat)) : List Byte :=
  byte points.length :: points.flatMap fun p => num 2 p.1 ++ num 2 p.2

/-- The point list of an Ambient Curve entry, with the ranges of R105. -/
def decodeAmbient (bs : List Byte) : Option (List (Nat × Nat)) := do
  let count ← ranged 2 8 (n1 bs 0)
  let points ← (List.range count).mapM fun i => do
    let ratio ← ranged 0 8000 (n2 bs (1 + 4 * i))
    let level ← ranged 0 1000 (n2 bs (3 + 4 * i))
    some (ratio, level)
  if strictlyAscending points then some points else none

def ClockConfig.encode (e : ClockConfig) : List Byte :=
  num 3 e.startTime ++ num 2 e.startRate ++ [byte e.ambientNode] ++ num 2 e.ambientDefault ++ [byte e.ambientTimeout]

def ClockConfig.decode (bs : List Byte) : Option ClockConfig := do
  let startTime ← ranged 0 86399 (n3 bs 0)
  let ambientNode ← ranged 0 96 (n1 bs 5)
  let ambientDefault ← ranged 0 1000 (n2 bs 6)
  let ambientTimeout ← ranged 1 60 (n1 bs 8)
  some { startTime, startRate := n2 bs 3, ambientNode, ambientDefault, ambientTimeout }

def RotorEntry.encode (e : RotorEntry) : List Byte :=
  [flagByte [e.enabled, e.direction = .reverse], byte e.node, byte e.channel, byte e.maxStep, byte e.creepStep, byte e.acceleration,
    byte e.indexEntry.val] ++ num 2 e.stallLimit

/-- With the rule of R130 that the creep step does not exceed the max step. -/
def RotorEntry.decode (bs : List Byte) : Option RotorEntry := do
  let node ← ranged 1 96 (n1 bs 1)
  let channel ← ranged 0 3 (n1 bs 2)
  let maxStep ← ranged 1 126 (n1 bs 3)
  let creepStep ← ranged 1 40 (n1 bs 4)
  let acceleration ← ranged 1 250 (n1 bs 5)
  let indexEntry ← finOf 128 (n1 bs 6)
  let stallLimit ← ranged 500 65535 (n2 bs 7)
  if creepStep ≤ maxStep then
    some { enabled := bitAt bs 0 0, direction := Direction.ofBit (bitAt bs 0 1), node, channel, maxStep, creepStep, acceleration, indexEntry,
           stallLimit }
  else none

/-- Selector kinds are coded 1–15 in the order of Table 8-2. -/
def CueTrigger.code : CueTrigger → Nat
  | .blockEnter _ => 1 | .blockClear _ => 2 | .button _ => 3 | .spareRise _ => 4 | .spareFall _ => 5 | .minute _ => 6
  | .clockJumped => 7 | .rotorIndex _ => 8 | .rotorStopped _ => 9 | .trainArrived _ => 10 | .routeGranted _ => 11
  | .routeTimeout _ => 12 | .cueFired _ => 13 | .loopUp => 14 | .loopDown => 15

/-- Subject of a selector; absent for the kinds without one. -/
def CueTrigger.subject : CueTrigger → Option Nat
  | .blockEnter b => some b.val
  | .blockClear b => some b.val
  | .button e => some e.val
  | .spareRise e => some e.val
  | .spareFall e => some e.val
  | .minute m => some m
  | .clockJumped => none
  | .rotorIndex r => some r.val
  | .rotorStopped r => some r.val
  | .trainArrived t => some t.val
  | .routeGranted t => some t.val
  | .routeTimeout t => some t.val
  | .cueFired k => some k.val
  | .loopUp => none
  | .loopDown => none

/-- A selector from its kind code and subject, with the rules of R142. -/
def CueTrigger.decode (code subject : Nat) : Option CueTrigger :=
  match code with
  | 1 => (finOf 48 subject).map .blockEnter
  | 2 => (finOf 48 subject).map .blockClear
  | 3 => (finOf 128 subject).map .button
  | 4 => (finOf 128 subject).map .spareRise
  | 5 => (finOf 128 subject).map .spareFall
  | 6 => (ranged 0 1439 subject).map .minute
  | 7 => if subject = 65535 then some .clockJumped else none
  | 8 => (finOf 4 subject).map .rotorIndex
  | 9 => (finOf 4 subject).map .rotorStopped
  | 10 => (finOf 8 subject).map .trainArrived
  | 11 => (finOf 8 subject).map .routeGranted
  | 12 => (finOf 8 subject).map .routeTimeout
  | 13 => (finOf 64 subject).map .cueFired
  | 14 => if subject = 65535 then some .loopUp else none
  | 15 => if subject = 65535 then some .loopDown else none
  | _ => none

def CueTrigger.encode (t : CueTrigger) : List Byte := byte t.code :: optNum 2 t.subject

/-- Mode codes in the order of Table 8-1. -/
def CueMode.code : CueMode → Nat
  | .countA => 0 | .either => 1 | .aThenB => 2 | .aCountThenB => 3 | .bothWithin => 4

def CueMode.ofCode (n : Nat) : Option CueMode :=
  match n with
  | 0 => some .countA
  | 1 => some .either
  | 2 => some .aThenB
  | 3 => some .aCountThenB
  | 4 => some .bothWithin
  | _ => none

/-- Action code 1–10 in the order of Table 8-3, then the parameters in that table's order. -/
def CueAction.bytes : CueAction → List Byte
  | .dispatch t r w => byte 1 :: byte t.val :: byte r.val :: num 2 w
  | .cancelRequest t => [byte 2, byte t.val]
  | .override c l d => byte 3 :: byte c.val :: byte l :: num 2 d
  | .rotorStart r s => [byte 4, byte r.val, byte s]
  | .rotorStop r => [byte 5, byte r.val]
  | .setRate q => byte 6 :: num 2 q
  | .modeHold => [byte 7]
  | .enableCue k => [byte 8, byte k.val]
  | .disableCue k => [byte 9, byte k.val]
  | .report d => byte 10 :: num 2 d

def CueAction.encode (a : CueAction) : List Byte := a.bytes ++ List.replicate (5 - a.bytes.length) 0

/-- An action slot of 5 bytes, with the ranges of Table 8-3. -/
def CueAction.decode (bs : List Byte) : Option CueAction :=
  match n1 bs 0 with
  | 1 => do
    let t ← finOf 8 (n1 bs 1)
    let r ← finOf 32 (n1 bs 2)
    let w ← ranged 0 600 (n2 bs 3)
    some (.dispatch t r w)
  | 2 => (finOf 8 (n1 bs 1)).map .cancelRequest
  | 3 => do
    let c ← finOf 192 (n1 bs 1)
    let d ← ranged 1 65535 (n2 bs 3)
    some (.override c (n1 bs 2) d)
  | 4 => do
    let r ← finOf 4 (n1 bs 1)
    let s ← ranged 0 126 (n1 bs 2)
    some (.rotorStart r s)
  | 5 => (finOf 4 (n1 bs 1)).map .rotorStop
  | 6 => some (.setRate (n2 bs 1))
  | 7 => some .modeHold
  | 8 => (finOf 64 (n1 bs 1)).map .enableCue
  | 9 => (finOf 64 (n1 bs 1)).map .disableCue
  | 10 => some (.report (n2 bs 1))
  | _ => none

def CueEntry.encode (e : CueEntry) : List Byte :=
  [flagByte [e.enabled, e.oneShot, e.stampMode = .last], byte e.mode.code, byte e.count] ++ e.triggerA.encode
    ++ (match e.triggerB with | none => [0, 0, 0] | some t => t.encode)
    ++ num 2 e.window ++ num 2 e.holdOff ++ [byte e.actions.length]
    ++ e.actions.flatMap CueAction.encode ++ List.replicate (20 - 5 * e.actions.length) 0

/-- A Cue Table entry, with the rules of R142 but for the last, which needs the entry's own index. -/
def CueEntry.decode (bs : List Byte) : Option CueEntry := do
  let mode ← CueMode.ofCode (n1 bs 1)
  let count ← ranged 1 255 (n1 bs 2)
  let triggerA ← CueTrigger.decode (n1 bs 3) (n2 bs 4)
  let triggerB ← if n1 bs 6 = 0 then some none else (CueTrigger.decode (n1 bs 6) (n2 bs 7)).map some
  let window ← ranged 1 65535 (n2 bs 9)
  let actionCount ← ranged 1 4 (n1 bs 13)
  let actions ← (List.range actionCount).mapM fun i => CueAction.decode ((bs.drop (14 + 5 * i)).take 5)
  if triggerB.isNone = decide (mode = .countA) then
    some { enabled := bitAt bs 0 0, oneShot := bitAt bs 0 1, stampMode := if bitAt bs 0 2 then .last else .first, mode, count, triggerA,
           triggerB, window, holdOff := n2 bs 11, actions }
  else none

/-- The mask of the Report Mask's four bytes: kind k masked at bit k of the 32-bit word. -/
def decodeMask (bs : List Byte) : BitVec 32 := at0 bs 0 ++ at0 bs 1 ++ at0 bs 2 ++ at0 bs 3

end Sys2Proof.Machine
end

