-- ==== Sys2Proof/Machine/Flags.lean ====
section
/-!
DEFINITION. The flags of the Report Unit (R172, R173): the code of each event kind, the latch, the mask, and the EVENT payload (R182).
-/

namespace Sys2Proof.Machine

/-- The codes of R182: the order of Table 10-4, each row read from left to right. -/
def EventKind.code : EventKind → Nat
  | .loopDown => 0 | .loopUp => 1 | .nodeMissing => 2 | .nodeFault => 3 | .passOverflow => 4
  | .routeGranted => 5 | .routeTimeout => 6 | .routeRefused => 7 | .blockStray => 8 | .turnoutFault => 9 | .switchRefused => 10
  | .trainHalted => 11 | .trainLost => 12 | .trainArrived => 13 | .earlyEntry => 14 | .guideTimeout => 15 | .calDone => 16
  | .calClamped => 17
  | .clockJumped => 18 | .slewDone => 19 | .ambientStale => 20
  | .rotorHomed => 21 | .rotorStopped => 22 | .rotorHalted => 23
  | .cueFired => 24 | .cueActionRefused => 25 | .cueChainLimit => 26 | .cueReport => 27
  | .holdReached => 28
  | .storeDone => 29 | .storeFailed => 30 | .storeInvalid => 31

/-- The word that stands for no subject and for no detail (R182). -/
def noValue : Nat := 0xFFFF

/-- A detail word of two items: the first in the high byte, the second in the low byte (R182). -/
def pairDetail (high low : Nat) : Nat := high * 256 + low

/-- The 32-bit word with the bit of one kind set. -/
def EventKind.bit (k : EventKind) : BitVec 32 := BitVec.ofNat 32 (2 ^ k.code)

/-- The Report Unit with the flag of a kind latched, whatever the mask holds (R172). -/
def ReportUnit.latch (r : ReportUnit) (k : EventKind) : ReportUnit := { r with flags := r.flags ||| k.bit }

/-- Whether the Report Mask masks a kind (R173). -/
def masked (mask : BitVec 32) (k : EventKind) : Bool := mask.getLsbD k.code

/-- The virtual second (R94). -/
def DayClock.second (c : DayClock) : Nat := c.virtualTime / 1000

/-- The virtual minute (R94). -/
def DayClock.minute (c : DayClock) : Nat := c.virtualTime / 60000

/-- The EVENT frame of Table 11-5, with the stamp of the Day Clock. -/
def eventFrame (k : EventKind) (subject detail : Nat) (c : DayClock) : Frame :=
  ownFrame Config.hostAddress kindEvent (byte k.code :: num 2 subject ++ num 2 c.day ++ num 3 c.second ++ num 2 detail)

/-- The result bytes of READ FLAGS (R181): the 32 flags, then REPORT_OVERFLOW. -/
def ReportUnit.result (r : ReportUnit) : List Byte := word32Bytes r.flags ++ [flagByte [r.overflow]]

end Sys2Proof.Machine
end

