-- ==== Sys2Proof/Machine/Ops.lean ====
section
/-!
DEFINITION. The named operations every block uses: reading and updating one record, counting, the queues to F-out with the Output
Arbiter (R9–R15), the Upstream Queue (R163–R165), raising an event (R172) and delivering a device event to the Cue Engine (R143, R144).
-/

namespace Sys2Proof.Machine

/-! ## Records -/

/-- A vector with one element changed. -/
def modifyAt {α : Type} {n : Nat} (v : Vector α n) (i : Fin n) (f : α → α) : Vector α n := v.set i (f v[i])

def State.block (s : State) (b : BlockId) : BlockState := s.interlock.blocks[b]
def State.turnout (s : State) (u : TurnoutId) : TurnoutState := s.interlock.turnouts[u]
def State.path (s : State) (t : TrainId) : TrainPath := s.interlock.paths[t]
def State.train (s : State) (t : TrainId) : TrainRecord := s.motion.trains[t]
def State.channel (s : State) (c : ChannelId) : ChannelState := s.lamps.channels[c]
def State.rotor (s : State) (r : RotorId) : RotorRecord := s.rotors.rotors[r]
def State.cue (s : State) (k : CueId) : CueProgress := s.cues.progress[k]
def State.sensor (s : State) (e : EntryId) : SensorState := s.filter.entries[e]
def State.blockEntry (s : State) (b : BlockId) : BlockEntry := s.tables.blocks[b]
def State.turnoutEntry (s : State) (u : TurnoutId) : TurnoutEntry := s.tables.turnouts[u]
def State.routeEntry (s : State) (r : RouteId) : RouteEntry := s.tables.routes[r]
def State.trainEntry (s : State) (t : TrainId) : TrainEntry := s.tables.trains[t]
def State.sensorEntry (s : State) (e : EntryId) : SensorEntry := s.tables.sensors[e]
def State.patchEntry (s : State) (c : ChannelId) : PatchEntry := s.tables.patch[c]
def State.rotorEntry (s : State) (r : RotorId) : RotorEntry := s.tables.rotors[r]
def State.cueEntry (s : State) (k : CueId) : CueEntry := s.tables.cues[k]

def State.updBlock (s : State) (b : BlockId) (f : BlockState → BlockState) : State :=
  { s with interlock := { s.interlock with blocks := modifyAt s.interlock.blocks b f } }
def State.updTurnout (s : State) (u : TurnoutId) (f : TurnoutState → TurnoutState) : State :=
  { s with interlock := { s.interlock with turnouts := modifyAt s.interlock.turnouts u f } }
def State.updPath (s : State) (t : TrainId) (f : TrainPath → TrainPath) : State :=
  { s with interlock := { s.interlock with paths := modifyAt s.interlock.paths t f } }
def State.updTrain (s : State) (t : TrainId) (f : TrainRecord → TrainRecord) : State :=
  { s with motion := { s.motion with trains := modifyAt s.motion.trains t f } }
def State.updChannel (s : State) (c : ChannelId) (f : ChannelState → ChannelState) : State :=
  { s with lamps := { s.lamps with channels := modifyAt s.lamps.channels c f } }
def State.updRotor (s : State) (r : RotorId) (f : RotorRecord → RotorRecord) : State :=
  { s with rotors := { s.rotors with rotors := modifyAt s.rotors.rotors r f } }
def State.updCue (s : State) (k : CueId) (f : CueProgress → CueProgress) : State :=
  { s with cues := { s.cues with progress := modifyAt s.cues.progress k f } }
def State.updSensor (s : State) (e : EntryId) (f : SensorState → SensorState) : State :=
  { s with filter := { s.filter with entries := modifyAt s.filter.entries e f } }
def State.updTrainEntry (s : State) (t : TrainId) (f : TrainEntry → TrainEntry) : State :=
  { s with tables := { s.tables with trains := modifyAt s.tables.trains t f } }

/-- The part mode (R168). -/
def State.mode (s : State) : PartMode := s.mgmt.mode

/-- Whether the ring is trusted (R8, R72). -/
def State.qualified (s : State) : Bool := s.loop.state = .qualified

/-- An operation on each element of a range in ascending order. -/
def forAll {n : Nat} (f : Fin n → State → State) (s : State) : State := (List.finRange n).foldl (fun s i => f i s) s

/-! ## Counting (R19, R162) -/

/-- Index of a reason's counter, in the order of Table 1-8. -/
def FInDrop.index : FInDrop → Fin 7
  | .staleEcho => 0 | .returned => 1 | .address => 2 | .unclaimedPass => 3 | .kind => 4 | .noTaker => 5 | .upstreamFull => 6

/-- Index of a reason's counter, in the order of Table 9-3. -/
def SInDrop.index : SInDrop → Fin 11
  | .address => 0 | .kind => 1 | .mgmtOverflow => 2 | .starting => 3 | .length => 4 | .broadcast => 5 | .loopNotReady => 6
  | .guideRefused => 7 | .switchRefused => 8 | .rotorRefused => 9 | .passOverflow => 10

def PortTotals.addGood (p : PortTotals) : PortTotals := { p with good := p.good + 1 }
def PortTotals.addCheckError (p : PortTotals) : PortTotals := { p with checkErrors := p.checkErrors + 1 }
def PortTotals.addFormatError (p : PortTotals) : PortTotals := { p with formatErrors := p.formatErrors + 1 }
def PortTotals.addForwarded (p : PortTotals) : PortTotals := { p with forwarded := p.forwarded + 1 }
def PortTotals.addConsumed (p : PortTotals) : PortTotals := { p with consumed := p.consumed + 1 }
def PortTotals.addDropped (p : PortTotals) : PortTotals := { p with dropped := p.dropped + 1 }

def State.countFIn (s : State) (f : PortTotals → PortTotals) : State := { s with counters := { s.counters with fIn := f s.counters.fIn } }
def State.countSIn (s : State) (f : PortTotals → PortTotals) : State := { s with counters := { s.counters with sIn := f s.counters.sIn } }

/-- A good frame at F-in dropped with a reason: the dropped counter and the reason's counter (R19). -/
def State.dropFIn (s : State) (r : FInDrop) : State :=
  { s with counters := { s.counters with fIn := s.counters.fIn.addDropped, fInDrops := modifyAt s.counters.fInDrops r.index (· + 1) } }

/-- A good frame at S-in dropped with a reason: the dropped counter and the reason's counter (R162). -/
def State.dropSIn (s : State) (r : SInDrop) : State :=
  { s with counters := { s.counters with sIn := s.counters.sIn.addDropped, sInDrops := modifyAt s.counters.sInDrops r.index (· + 1) } }

def State.countFOut (s : State) (f : FOutCounters → FOutCounters) : State :=
  { s with counters := { s.counters with fOut := f s.counters.fOut } }
def State.countSOut (s : State) (f : SOutCounters → SOutCounters) : State :=
  { s with counters := { s.counters with sOut := f s.counters.sOut } }
def State.countBlock (s : State) (f : BlockCounters → BlockCounters) : State :=
  { s with counters := { s.counters with block := f s.counters.block } }

/-- Frames removed from the Engine or Pass Queue unsent (R19). -/
def State.countPurged (s : State) (n : Nat) : State := s.countFOut fun c => { c with purged := c.purged + BitVec.ofNat 32 n }

/-! ## The queues to F-out and the Output Arbiter -/

/-- The Output Arbiter's grant, made while F-out is idle (R14). -/
def FieldPort.grant (p : FieldPort) : FieldPort :=
  match p.transmitting with
  | some _ => p
  | none =>
    match p.urgent with
    | (_, f) :: rest => { p with urgent := rest, transmitting := some (.urgent, f) }
    | [] =>
      match p.engine, p.pass with
      | [], [] => p
      | (_, f) :: rest, [] => { p with engine := rest, transmitting := some (.engine, f), servedLast := .engine }
      | [], f :: rest => { p with pass := rest, transmitting := some (.pass, f), servedLast := .pass }
      | (_, f) :: rest, g :: others =>
        match p.servedLast with
        | .pass => { p with engine := rest, transmitting := some (.engine, f), servedLast := .engine }
        | .engine => { p with pass := others, transmitting := some (.pass, g), servedLast := .pass }

/-- A keyed queue with a frame offered: it replaces the waiting frame of its key in its place, or joins as the newest (R9). -/
def keyedOffer {κ : Type} [DecidableEq κ] (q : List (κ × Frame)) (k : κ) (f : Frame) : List (κ × Frame) :=
  if q.any (fun e => e.1 = k) then q.map (fun e => if e.1 = k then (k, f) else e) else q ++ [(k, f)]

/-- An Engine Queue key of a LEVEL frame. -/
def EngineKey.isLevel : EngineKey → Bool
  | .level _ _ => true
  | _ => false

/-- An Engine Queue key of a DRIVE or ROTOR frame. -/
def EngineKey.isMotion : EngineKey → Bool
  | .drive _ => true
  | .rotor _ => true
  | _ => false

/-- A frame of kind DRIVE or ROTOR. -/
def Frame.isMotion (f : Frame) : Bool := f.kind = kindDrive || f.kind = kindRotor

/-- The frames that satisfy a test removed from the Engine Queue, and counted (R12, R44). -/
def State.purgeEngine (s : State) (test : EngineKey → Bool) : State :=
  { s.countPurged (s.field.engine.filter fun e => test e.1).length with
    field := { s.field with engine := s.field.engine.filter fun e => !test e.1 } }

/-- The frames that satisfy a test removed from the Pass Queue, and counted (R6, R12, R44). -/
def State.purgePass (s : State) (test : Frame → Bool) : State :=
  { s.countPurged (s.field.pass.filter test).length with
    field := { s.field with pass := s.field.pass.filter fun f => !test f } }

/-- The removals that an Urgent Queue offer makes from the other queues (R12). -/
def purgeFor (k : UrgentKey) (s : State) : State :=
  match k with
  | .allStop => (s.purgeEngine EngineKey.isMotion).purgePass Frame.isMotion
  | .emergencyDrive t => s.purgeEngine fun e => e = .drive t
  | .echo => s
  | .senseRequest => s

/-- A frame offered to the Urgent Queue; the offer is never refused (R9, R10, R12), and a grant follows where F-out is idle (R14). -/
def offerUrgent (k : UrgentKey) (f : Frame) (s : State) : State :=
  let s := purgeFor k s
  { s with field := { s.field with urgent := keyedOffer s.field.urgent k f }.grant }

/-- Whether the Engine Queue takes an offer under a key (R9, R11): only a LEVEL frame can be refused. -/
def engineTakes (q : List (EngineKey × Frame)) (k : EngineKey) : Bool :=
  !k.isLevel || q.any (fun e => e.1 = k)
    || ((q.filter fun e => e.1.isLevel).length < Config.engineLevelCapacity && q.length < Config.engineCapacity)

/-- A frame placed in the Engine Queue under its key, and a grant where F-out is idle (R9, R14). -/
def offerEngine (k : EngineKey) (f : Frame) (s : State) : State :=
  { s with field := { s.field with engine := keyedOffer s.field.engine k f }.grant }

/-! ## The Upstream Queue and events -/

/-- A REPLY of the Upstream Queue. -/
def Frame.isReply (f : Frame) : Bool := f.kind = kindReply

/-- REPLY frames that wait (R163). -/
def State.repliesWaiting (s : State) : Nat := (s.link.upstream.filter Frame.isReply).length

/-- Frames of other kinds that wait (R163, R164). -/
def State.othersWaiting (s : State) : Nat := (s.link.upstream.filter fun f => !f.isReply).length

/-- S-out takes the oldest waiting frame when it is idle (R165). -/
def ShowLink.start (l : ShowLink) : ShowLink :=
  match l.transmitting, l.upstream with
  | none, f :: rest => { upstream := rest, transmitting := some f }
  | _, _ => l

/-- A frame placed in the Upstream Queue as its newest. -/
def placeUpstream (f : Frame) (s : State) : State :=
  { s with link := { s.link with upstream := s.link.upstream ++ [f] }.start }

/-- Whether the Upstream Queue takes an EVENT or a forwarded copy (R164). -/
def State.upstreamTakes (s : State) : Bool := s.othersWaiting < Config.upstreamOtherCapacity

/-- A REPLY placed (R163: it always finds a place). -/
def reply (tag : Byte) (status : Status) (result : List Byte) (s : State) : State := placeUpstream (replyFrame tag status result) s

/-- An event raised toward the Report Unit (R172): its flag is latched; unless masked an EVENT frame is offered, and a refusal sets
REPORT_OVERFLOW and counts (R164). -/
def raise (k : EventKind) (subject detail : Nat) (s : State) : State :=
  let s := { s with report := s.report.latch k }
  if masked s.tables.mask k then s
  else if s.upstreamTakes then placeUpstream (eventFrame k subject detail s.clock) s
  else { s.countSOut (fun c => { c with refused := c.refused + 1 }) with report := { s.report with overflow := true } }

/-- A device event delivered to the Cue Engine (R143, R144): discarded and counted in STARTING or while the list is full. -/
def deliverCue (e : CueEvent) (s : State) : State :=
  if s.mode = .starting ∨ Config.cuePendingCapacity ≤ s.cues.pendingEvents.length then
    s.countBlock fun c => { c with cueDiscarded := c.cueDiscarded + 1 }
  else { s with cues := { s.cues with pendingEvents := s.cues.pendingEvents ++ [e] } }

/-- A device event that is no firing. -/
def deviceEvent (t : CueTrigger) : CueEvent := { trigger := t, depth := 0, origin := .other }

end Sys2Proof.Machine
end

