-- ==== Sys2Proof/Machine/Authority.lean ====
section
/-!
DEFINITION. How far and how fast a train may go: the authorised count and the aspects (R49, R50), the braking distance B (R71), the
remaining authority and the permitted step P (R72), and the recomputation of P between updates (R76).
-/

namespace Sys2Proof.Machine

/-! ## Authorised count and aspects -/

/-- A turnout that is locked by the train and not SET and whose block is b (R49, first kind). -/
def heldByTurnout (s : State) (t : TrainId) (b : BlockId) : Bool :=
  (List.finRange 16).any fun u =>
    (s.turnout u).lock = some t && (s.turnout u).condition ≠ .set && (s.turnoutEntry u).block = b

/-- A block that ends an authorised run of the train (R49). -/
def endsAuthority (s : State) (t : TrainId) (b : BlockId) : Bool :=
  heldByTurnout s t b || ((s.blockEntry b).crossing && (s.block b).crossing ≠ .active) || (s.block b).intruded

/-- R49: the length of the longest run at the start of the reserved list that holds no block which ends authority and lies beyond none. -/
def authorisedCount (s : State) (t : TrainId) : Nat :=
  if (s.path t).occupied.any (endsAuthority s t) then 0
  else ((s.path t).reserved.takeWhile fun b => !endsAuthority s t b).length

/-- The blocks of a train's authorised prefix. -/
def authorisedBlocks (s : State) (t : TrainId) : List BlockId := (s.path t).reserved.take (s.path t).authorised

/-- R50: PROCEED when the block lies within some train's authorised prefix, and STOP otherwise. -/
def aspect (s : State) (b : BlockId) : Aspect :=
  if (List.finRange 8).any fun t => (authorisedBlocks s t).contains b then .proceed else .stop

/-! ## Braking distance and permitted step -/

/-- R71: B(s) in µm. -/
def brakingDistance (k d s : Nat) : Nat := k * 125 * s * (s + 1) / (4 * d)

/-- A train's braking distance at a step, with its own K and D (R71). -/
def trainBraking (s : State) (t : TrainId) (step : Nat) : Nat :=
  brakingDistance (s.trainEntry t).speedScale (s.trainEntry t).deceleration step

/-- The largest step from 0 to a bound that satisfies a test; 0 where none does. -/
def largestStep (test : Nat → Bool) : Nat → Nat
  | 0 => 0
  | n + 1 => if test (n + 1) then n + 1 else largestStep test n

/-- Length of a block in µm. -/
def blockLength (s : State) (b : BlockId) : Nat := (s.blockEntry b).length * 1000

/-- Length of a train's head block in µm; 0 where it has none. -/
def headLength (s : State) (t : TrainId) : Nat :=
  match (s.path t).occupied with
  | [] => 0
  | b :: _ => blockLength s b

/-- The distance from a train's front to the end of its head (R72). -/
def distanceToHeadEnd (s : State) (t : TrainId) : Nat := headLength s t - (s.train t).position

/-- The sum of the lengths of a list of blocks, µm. -/
def totalLength (s : State) (bs : List BlockId) : Nat := (bs.map (blockLength s)).sum

/-- The remaining authority of a train (R72). -/
def remainingAuthority (s : State) (t : TrainId) : Nat := distanceToHeadEnd s t + totalLength s (authorisedBlocks s t)

/-- Term 3 of R72 for the authorised blocks, the first of which starts at a distance from the front. -/
def approachTerms (s : State) (t : TrainId) : Nat → List BlockId → List Nat
  | _, [] => []
  | dist, b :: bs =>
    largestStep (fun v => trainBraking s t v ≤ trainBraking s t (s.blockEntry b).speedCap + dist) Config.maxStep
      :: approachTerms s t (dist + blockLength s b) bs

/-- Term 4 of R72. -/
def endTerm (s : State) (t : TrainId) : Nat :=
  largestStep (fun v => trainBraking s t v + (s.trainEntry t).stopMargin * 1000 ≤ remainingAuthority s t) Config.maxStep

/-- A train the motion update moves: STOPPED, RUNNING or BRAKING. -/
def TrainCondition.isLocated : TrainCondition → Bool
  | .stopped => true
  | .running => true
  | .braking => true
  | _ => false

/-- Whether the part mode and the Loop Monitor permit motion at all (R72). -/
def motionPermitted (s : State) : Bool := (s.mode = .run || s.mode = .holding) && s.qualified

/-- R72: the permitted step P. -/
def permittedStep (s : State) (t : TrainId) : Nat :=
  if motionPermitted s && (s.train t).condition.isLocated then
    (((s.path t).occupied.map fun b => (s.blockEntry b).speedCap)
      ++ approachTerms s t (distanceToHeadEnd s t) (authorisedBlocks s t) ++ [endTerm s t]).foldl min Config.maxStep
  else 0

/-- R76: P recomputed at once; a located train whose step exceeds it becomes BRAKING. -/
def recomputeP (t : TrainId) (s : State) : State :=
  let p := permittedStep s t
  s.updTrain t fun r =>
    { r with permitted := p, condition := if r.condition.isLocated && decide (p < r.step) then .braking else r.condition }

/-- P recomputed for every train, on a change of part mode or of Loop Monitor state (R76). -/
def recomputeAllP (s : State) : State := forAll recomputeP s

/-- A train's authorised count recomputed (R49); a change is delivered to the Motion Engine as it is made (R76). -/
def recount (t : TrainId) (s : State) : State :=
  let n := authorisedCount s t
  if n = (s.path t).authorised then s
  else recomputeP t (s.updPath t fun p => { p with authorised := n })

/-- Whether a train can stop within its authority (R58, R76). -/
def canStop (s : State) (t : TrainId) : Bool :=
  (s.train t).step = 0
    || trainBraking s t (s.train t).step + (s.trainEntry t).stopMargin * 1000 ≤ remainingAuthority s t

/-- Every train's step is 0 (R82, R168). -/
def allStepsZero (s : State) : Bool := (List.finRange 8).all fun t => (s.train t).step = 0

end Sys2Proof.Machine
end

