-- ==== Sys2Proof/Machine/Interlocking.lean ====
section
/-!
DEFINITION. The Interlocking's own operations (Chapter 3): throws and locks (R40, R44), releases (R47), crossings (R48), the Route Queue
with its service and grants (R52–R56).
-/

namespace Sys2Proof.Machine

/-! ## Turnouts -/

/-- Enabled feedback entries of a turnout: whether there is a TURNOUT_NORMAL and whether there is a TURNOUT_REVERSE entry. -/
def hasFeedback (ts : Tables) (f : SensorFunction) : Bool :=
  (List.finRange 128).any fun e => ts.sensors[e].enabled && ts.sensors[e].function = f

/-- The position that an indication of a turnout shows (R39); none where it shows no position or nothing. -/
def shownPosition (ts : Tables) (u : TurnoutId) : Indication → Option Position
  | .normal => some .normal
  | .reverse => some .reverse
  | .none =>
    match hasFeedback ts (.turnoutNormal u), hasFeedback ts (.turnoutReverse u) with
    | true, false => some .reverse
    | false, true => some .normal
    | _, _ => none
  | .both => none
  | .unknown => none

/-- The effect of a throw on the turnout's own state (R40). -/
def startThrow (u : TurnoutId) (p : Position) (s : State) : State :=
  let limit := (s.turnoutEntry u).throwLimit
  s.updTurnout u fun x => { x with condition := .moving, commanded := some p, position := none, throwTimer := some limit }

/-- R40: the part throws a turnout to a position. -/
def throwTurnout (u : TurnoutId) (p : Position) (s : State) : State :=
  startThrow u p (offerEngine (.switch u) (switchFrame (s.turnoutEntry u) p) s)

/-- A waiting host SWITCH for a turnout's output (R44). -/
def Frame.isSwitchFor (e : TurnoutEntry) (f : Frame) : Bool :=
  f.kind = kindSwitch && f.dest.toNat = e.node && n1 f.payload 0 = e.channel

/-- R44: a turnout locked to a train, in one step with the purge of waiting SWITCH frames for it. -/
def lockTurnout (u : TurnoutId) (t : TrainId) (s : State) : State :=
  let s := (s.purgePass (Frame.isSwitchFor (s.turnoutEntry u))).purgeEngine fun k => k = .switch u
  s.updTurnout u fun x => { x with lock := some t }

/-- Unlocking: the lock holder is cleared and a SET turnout becomes FREE (R44); a cause of service (R53). -/
def unlockTurnout (u : TurnoutId) (s : State) : State :=
  let s := s.updTurnout u fun x => { x with lock := none, condition := if x.condition = .set then .free else x.condition }
  { s with interlock := { s.interlock with serviceDue := true } }

/-- The lock holder's count recomputed, where there is a lock holder (R41, R42). -/
def recountHolderOfTurnout (u : TurnoutId) (s : State) : State :=
  match (s.turnout u).lock with
  | none => s
  | some t => recount t s

/-- Detail of TURNOUT_FAULT (Table 3-5). -/
inductive TurnoutFaultDetail where
  | timeout | feedback | node
  deriving DecidableEq, Repr

def TurnoutFaultDetail.code : TurnoutFaultDetail → Nat
  | .timeout => 0 | .feedback => 1 | .node => 2

/-- A turnout made FAULT (R41, R42). -/
def faultTurnout (u : TurnoutId) (d : TurnoutFaultDetail) (s : State) : State :=
  recountHolderOfTurnout u
    (raise .turnoutFault u.val d.code
      (s.updTurnout u fun x => { x with condition := .fault, position := none, throwTimer := none }))

/-- A throw completed: the position becomes the commanded position and the turnout SET when locked, FREE otherwise (R41). -/
def completeThrow (u : TurnoutId) (s : State) : State :=
  recountHolderOfTurnout u
    (s.updTurnout u fun x =>
      { x with position := x.commanded, throwTimer := none, condition := if x.lock.isSome then .set else .free })

/-! ## Release -/

/-- Steps 1 to 3 of R47 for one block held by a train. -/
def dropBlock (t : TrainId) (b : BlockId) (s : State) : State :=
  let s := s.updPath t fun p => { p with occupied := p.occupied.filter (· ≠ b), reserved := p.reserved.filter (· ≠ b) }
  let s := s.updBlock b fun x => { x with holding := none, intruded := false }
  let s := forAll (fun u s =>
    if (s.turnout u).lock = some t && (s.turnoutEntry u).block = b then unlockTurnout u s else s) s
  if (s.blockEntry b).crossing then s.updBlock b fun x => { x with crossing := .idle, warnTimer := none } else s

/-- R47: several blocks of a train released by one event; the count is recomputed after all, and the Route Queue is due for service. -/
def releaseBlocks (t : TrainId) (bs : List BlockId) (s : State) : State :=
  if bs.isEmpty then s
  else
    let s := recount t (bs.foldl (fun s b => dropBlock t b s) s)
    { s with interlock := { s.interlock with serviceDue := true } }

/-- A cause of service (R53). -/
def markService (s : State) : State := { s with interlock := { s.interlock with serviceDue := true } }

/-! ## Blocks -/

/-- Table 3-2. -/
inductive ReportedState where
  | out | held | free | stray | unknown
  deriving DecidableEq, Repr

/-- R37: the reported state of a block. -/
def reportedState (s : State) (b : BlockId) : ReportedState :=
  if (s.blockEntry b).enabled then
    if (s.block b).holding.isSome then .held
    else
      match (s.block b).detection with
      | .clear => .free
      | .occupied => .stray
      | .unknown => .unknown
  else .out

/-- A crossing block that is not ACTIVE enters its holder's occupied list (R48). -/
def activateCrossing (b : BlockId) (s : State) : State :=
  if (s.blockEntry b).crossing then s.updBlock b fun x => { x with crossing := .active, warnTimer := none } else s

/-! ## The Route Queue -/

/-- Cause of ROUTE_REFUSED (Table 3-5). -/
inductive RefusalCause where
  | trainHalted | routeRewritten | pathChanged | cancelled
  deriving DecidableEq, Repr

def RefusalCause.code : RefusalCause → Nat
  | .trainHalted => 0 | .routeRewritten => 1 | .pathChanged => 2 | .cancelled => 3

def RequestSource.code : RequestSource → Nat
  | .mgmt => 0 | .cue => 1 | .buttonCue => 2

/-- The pending request of a train. -/
def requestOfTrain (s : State) (t : TrainId) : Option RouteRequest := s.interlock.queue.find? fun q => q.train = t

/-- The Route Queue without a train's request. -/
def dequeue (t : TrainId) (s : State) : State :=
  { s with interlock := { s.interlock with queue := s.interlock.queue.filter fun q => q.train ≠ t } }

/-- R56: a train's pending request removed with ROUTE_REFUSED; nothing where it has none. -/
def removeRequest (t : TrainId) (c : RefusalCause) (s : State) : State :=
  match requestOfTrain s t with
  | none => s
  | some q => raise .routeRefused t.val (pairDetail q.route.val c.code) (dequeue t s)

/-- The last block of a train's path (R52 check 5). -/
def lastPathBlock (p : TrainPath) : Option BlockId :=
  match p.reserved.getLast? with
  | some b => some b
  | none => p.occupied.head?

/-- R53: whether a request is grantable. -/
def grantable (s : State) (q : RouteRequest) : Bool :=
  let r := s.routeEntry q.route
  s.mode = .run && s.qualified
    && r.blocks.all (fun b => reportedState s b = .free)
    && (s.path q.train).reserved.length + r.blocks.length ≤ Config.maxReserved
    && r.turnouts.all fun p =>
        (s.turnoutEntry p.1).enabled && (s.turnout p.1).lock.isNone && r.blocks.contains (s.turnoutEntry p.1).block

/-- Step 2 of R54 for one listed turnout. -/
def takeTurnout (t : TrainId) (p : TurnoutId × Position) (s : State) : State :=
  let x := s.turnout p.1
  let e := s.turnoutEntry p.1
  if x.condition = .free && x.position = some p.2 && (!e.feedback || shownPosition s.tables p.1 x.indication = some p.2) then
    (lockTurnout p.1 t s).updTurnout p.1 fun y => { y with commanded := some p.2, condition := .set }
  else throwTurnout p.1 p.2 (lockTurnout p.1 t s)

/-- Step 3 of R54 for one block of the route: a crossing block goes from IDLE to WARNING, or to ACTIVE at warn time 0 (R48). -/
def warnCrossing (b : BlockId) (s : State) : State :=
  let e := s.blockEntry b
  if e.crossing && (s.block b).crossing = .idle then
    if e.warnTime = 0 then s.updBlock b fun x => { x with crossing := .active }
    else s.updBlock b fun x => { x with crossing := .warning, warnTimer := some e.warnTime }
  else s

/-- Step 1 of R54: the route's blocks appended to the reserved list. -/
def reserveBlocks (t : TrainId) (bs : List BlockId) (s : State) : State :=
  let s := s.updPath t fun p => { p with reserved := p.reserved ++ bs }
  bs.foldl (fun s b => s.updBlock b fun x => { x with holding := some (t, .reserved) }) s

/-- R54: a request granted. -/
def grantRoute (q : RouteRequest) (s : State) : State :=
  let r := s.routeEntry q.route
  let s := reserveBlocks q.train r.blocks s
  let s := r.turnouts.foldl (fun s p => takeTurnout q.train p s) s
  let s := r.blocks.foldl (fun s b => warnCrossing b s) s
  let s := recount q.train s
  let s := s.updTrain q.train fun x => { x with target := r.cruise }
  let s := dequeue q.train s
  let s := raise .routeGranted q.train.val (pairDetail q.route.val q.source.code) s
  deliverCue (deviceEvent (.routeGranted q.train)) s

/-- R53: the scan from oldest to newest; each request is judged at the moment the scan reaches it. -/
def serveRequests (qs : List RouteRequest) (s : State) : State :=
  qs.foldl (fun s q => if grantable s q then grantRoute q s else s) s

/-- The Route Queue served once where a cause of R53 has arisen (R47, log entry 6). -/
def serveIfDue (s : State) : State :=
  if s.interlock.serviceDue then
    serveRequests s.interlock.queue { s with interlock := { s.interlock with serviceDue := false } }
  else s

/-- R52: the checks of a dispatch request whose indexes are in range, and its place in the Route Queue. The queue is then due for
service. -/
def dispatchRequest (t : TrainId) (r : RouteId) (wait : Nat) (source : RequestSource) (s : State) : Status × State :=
  if !(s.routeEntry r).enabled || decide (600 < wait) then (.badValue, s)
  else if !(s.train t).condition.isLocated then (.notAvailable, s)
  else if (requestOfTrain s t).isSome then (.duplicate, s)
  else if lastPathBlock (s.path t) ≠ some (s.routeEntry r).start then (.badValue, s)
  else
    let q : RouteRequest :=
      { train := t, route := r, waitLimit := wait, source, waitTimer := if wait = 0 then none else some (wait * 1000) }
    (.accepted, markService { s with interlock := { s.interlock with queue := s.interlock.queue ++ [q] } })

/-- R56: CANCEL REQUEST for a train whose index is in range. -/
def cancelRequest (t : TrainId) (s : State) : Status × State :=
  if (requestOfTrain s t).isSome then (.ok, removeRequest t .cancelled s) else (.notAvailable, s)

end Sys2Proof.Machine
end

