-- ==== Sys2Proof/Machine/Rotors.lean ====
section
/-!
DEFINITION. The Rotor Unit (Chapter 7): START, STOP and halt (R132–R135), the update with its ramp (R136, R137), the index edge (R138)
and the part mode's effect on rotors (R139). The ramp's arithmetic is shared with the Motion Engine (R73).
-/

namespace Sys2Proof.Machine

/-! ## The ramp (R73, R137) -/

/-- Step, accumulator and direction of a ramp. -/
structure Ramp where
  step : Nat
  accumulator : Nat
  direction : RampDirection
  deriving DecidableEq, Repr

/-- A rate added to the accumulator; the step rises by one for each whole 50, not past the bound. -/
def Ramp.rise (r : Ramp) (rate bound : Nat) : Ramp :=
  let a := (if r.direction = .down then 0 else r.accumulator) + rate
  let k := min (a / 50) (bound - r.step)
  { step := r.step + k, accumulator := a - 50 * k, direction := .up }

/-- A rate added to the accumulator; the step falls by one for each whole 50, not past the bound. -/
def Ramp.fall (r : Ramp) (rate bound : Nat) : Ramp :=
  let a := (if r.direction = .up then 0 else r.accumulator) + rate
  let k := min (a / 50) (r.step - bound)
  { step := r.step - k, accumulator := a - 50 * k, direction := .down }

/-- Whenever the step equals the target at the end of the stage, the accumulator becomes 0. -/
def Ramp.settle (r : Ramp) (bound : Nat) : Ramp := if r.step = bound then { r with accumulator := 0 } else r

/-! ## Frames and halts -/

/-- A ROTOR frame with the rotor's present step offered; each restarts the refresh timer (R137). -/
def offerRotor (r : RotorId) (s : State) : State :=
  (offerEngine (.rotor r) (rotorFrame (s.rotorEntry r) (s.rotor r).step) s).updRotor r fun x =>
    { x with refreshTimer := some Config.refreshPeriod }

/-- Codes in the order of Table 7-2. -/
def RotorCause.code : RotorCause → Nat
  | .stall => 0 | .loop => 1 | .node => 2 | .stopAll => 3 | .requested => 4

/-- HOMING, RUNNING or STOPPING. -/
def RotorCondition.isTurning : RotorCondition → Bool
  | .homing => true
  | .running => true
  | .stopping => true
  | _ => false

/-- R134: every halt of a rotor; nothing for one that is UNHOMED or already HALTED. -/
def haltRotor (r : RotorId) (c : RotorCause) (s : State) : State :=
  if (s.rotor r).condition.isTurning || (s.rotor r).condition = .stopped then
    let s := s.updRotor r fun x =>
      { x with condition := .halted, cause := some c, step := 0, target := 0, accumulator := 0, ramp := .none, pendingTarget := none }
    raise .rotorHalted r.val c.code (offerRotor r s)
  else s

/-! ## START and STOP -/

/-- The step a START asks for, clamped to 1–max step (R132). -/
def requestedStep (e : RotorEntry) (step : Nat) : Nat := max 1 (min step e.maxStep)

/-- R132 for a rotor whose index is in range. -/
def startRotor (r : RotorId) (step : Nat) (s : State) : Status × State :=
  if !(s.rotorEntry r).enabled then (.notAvailable, s)
  else if s.mode ≠ .run ∨ s.qualified = false then (.wrongMode, s)
  else if (s.rotor r).condition = .halted then (.notAvailable, s)
  else
    let q := requestedStep (s.rotorEntry r) step
    (.ok, s.updRotor r fun x =>
      match x.condition with
      | .unhomed => { x with condition := .homing, pendingTarget := some q, runTime := 0, ramp := .none }
      | .homing => { x with pendingTarget := some q }
      | .stopped => { x with condition := .running, target := q }
      | .running => { x with condition := .running, target := q }
      | .stopping => { x with condition := .running, target := q }
      | .halted => x)

/-- A RUNNING or HOMING rotor sent to its index (R133, R139). -/
def RotorRecord.toStopping (x : RotorRecord) : RotorRecord :=
  match x.condition with
  | .running => { x with condition := .stopping }
  | .homing => { x with condition := .stopping, pendingTarget := none }
  | _ => x

/-- R133 for a rotor whose index is in range. -/
def stopRotor (r : RotorId) (s : State) : Status × State :=
  if !(s.rotorEntry r).enabled then (.notAvailable, s) else (.ok, s.updRotor r RotorRecord.toStopping)

/-- The part mode leaves RUN (R139). -/
def rotorsLeaveRun (s : State) : State := forAll (fun r s => s.updRotor r RotorRecord.toStopping) s

/-- R135, ROTOR HALT for a rotor whose index is in range. -/
def requestRotorHalt (r : RotorId) (s : State) : Status × State :=
  if !(s.rotorEntry r).enabled then (.notAvailable, s) else (.ok, haltRotor r .requested s)

/-- The record set as after power-on by a write or CLEAR ROTOR: revolutions count, lap flags and refresh timer kept (R131). -/
def RotorRecord.cleared (x : RotorRecord) : RotorRecord :=
  { RotorRecord.initial with
    revolutions := x.revolutions, lapRenewed := x.lapRenewed, lapOverrun := x.lapOverrun, refreshTimer := x.refreshTimer }

/-- R135, CLEAR ROTOR for a rotor whose index is in range. -/
def clearRotorRecord (r : RotorId) (s : State) : Status × State :=
  if (s.rotor r).condition = .halted then (.ok, s.updRotor r RotorRecord.cleared) else (.notAvailable, s)

/-! ## The update -/

/-- Run time and phase of R136. -/
def RotorRecord.advance (x : RotorRecord) : RotorRecord :=
  let run := if 0 < x.step then x.runTime + Config.rotorPeriod else x.runTime
  { x with
    runTime := run
    phase := match x.lastLap with
      | none => x.phase
      | some lap => some (min (run * 1000 / lap) 999) }

/-- The effective target of R137. -/
def RotorRecord.effectiveTarget (e : RotorEntry) (x : RotorRecord) : Nat :=
  match x.condition with
  | .homing => e.creepStep
  | .running => x.target
  | .stopping => if e.creepStep < x.step then e.creepStep else x.step
  | _ => x.step

/-- The ramp stage of R137. -/
def RotorRecord.rampStage (e : RotorEntry) (x : RotorRecord) : RotorRecord :=
  let t := x.effectiveTarget e
  let r : Ramp := { step := x.step, accumulator := x.accumulator, direction := x.ramp }
  let r := if x.step < t then r.rise e.acceleration t else if t < x.step then r.fall e.acceleration t else r
  let r := r.settle t
  { x with step := r.step, accumulator := r.accumulator, ramp := r.direction }

/-- The update of one rotor (R136, R137). -/
def updateRotor (r : RotorId) (s : State) : State :=
  if (s.rotorEntry r).enabled && (s.rotor r).condition.isTurning then
    let old := (s.rotor r).step
    let s := s.updRotor r RotorRecord.advance
    if decide (0 < old) && decide ((s.rotorEntry r).stallLimit < (s.rotor r).runTime) then haltRotor r .stall s
    else
      let s := s.updRotor r (RotorRecord.rampStage (s.rotorEntry r))
      if (s.rotor r).step = old then s else offerRotor r s
  else s

/-! ## The index edge -/

/-- Steps 1 and 2 of R138: the lap and the count. -/
def RotorRecord.takeIndex (x : RotorRecord) : RotorRecord :=
  let lap := x.indexSeen && decide (0 < x.runTime)
  let lastLap := if lap then some (min x.runTime 65535) else x.lastLap
  { x with
    lastLap := lastLap
    lapOverrun := x.lapOverrun || (lap && x.lapRenewed)
    lapRenewed := x.lapRenewed || lap
    indexSeen := true
    revolutions := (x.revolutions + 1) % 65536
    runTime := 0
    phase := if lastLap.isSome then some 0 else x.phase }

/-- R138: a rising INDEX edge delivered for a rotor with the Sensor Map entry's index. -/
def indexEdge (r : RotorId) (entry : EntryId) (s : State) : State :=
  if (s.rotorEntry r).enabled && (s.rotorEntry r).indexEntry = entry && (s.rotor r).condition.isTurning then
    let s := s.updRotor r RotorRecord.takeIndex
    let x := s.rotor r
    match x.condition, x.pendingTarget with
    | .homing, some q =>
      let s := s.updRotor r fun x => { x with condition := .running, target := q, pendingTarget := none }
      raise .rotorHomed r.val noValue (deliverCue (deviceEvent (.rotorIndex r)) s)
    | .stopping, _ =>
      if x.step ≤ (s.rotorEntry r).creepStep then
        let s := s.updRotor r fun x => { x with step := 0, accumulator := 0, ramp := .none, condition := .stopped }
        let s := deliverCue (deviceEvent (.rotorIndex r)) (offerRotor r s)
        raise .rotorStopped r.val x.revolutions (deliverCue (deviceEvent (.rotorStopped r)) s)
      else deliverCue (deviceEvent (.rotorIndex r)) s
    | _, _ => deliverCue (deviceEvent (.rotorIndex r)) s
  else s

end Sys2Proof.Machine
end

