-- ==== Sys2Proof/Machine/Halts.lean ====
section
/-!
DEFINITION. What the Motion Engine does to a train between updates (Sections 4.5 to 4.7): halts (R83), becoming LOST (R84), placement
(R88), the end of a halt (R86), the head advance with calibration (R77, R92); the part mode (R168) and what a change of it does.
-/

namespace Sys2Proof.Machine

/-! ## Codes (R179, log entry 11) -/

/-- The order of Table 4-2; Table 4-4 lists the causes in another order (log entry 34). -/
def HaltCause.code : HaltCause → Nat
  | .loop => 0 | .overrun => 1 | .intrusion => 2 | .miss => 3 | .node => 4 | .length => 5 | .stopAll => 6

/-- Detail of TRAIN_LOST (R84). -/
inductive LostDetail where
  | cleared | reevaluation | removed | written
  deriving DecidableEq, Repr

def LostDetail.code : LostDetail → Nat
  | .cleared => 0 | .reevaluation => 1 | .removed => 2 | .written => 3

/-! ## DRIVE frames -/

/-- An ordinary DRIVE with the train's present step offered; each restarts the refresh timer (R75). -/
def offerDrive (t : TrainId) (s : State) : State :=
  (offerEngine (.drive t) (driveFrame (s.trainEntry t) (s.train t).step false) s).updTrain t fun r =>
    { r with refreshTimer := some Config.refreshPeriod }

/-- The emergency DRIVE of R83 step 4. -/
def offerEmergency (t : TrainId) (s : State) : State :=
  (offerUrgent (.emergencyDrive t) (driveFrame (s.trainEntry t) 0 true) s).updTrain t fun r =>
    { r with refreshTimer := some Config.refreshPeriod }

/-! ## Halts -/

/-- A calibration whose transit, if running, is ended without a result. -/
def Calibration.endTransit (c : Calibration) : Calibration := { c with entryTime := none }

/-- Steps 1 to 3 of R83 on the record. -/
def TrainRecord.halt (c : HaltCause) (r : TrainRecord) : TrainRecord :=
  { r with
    condition := .halted, cause := some c, step := 0, target := 0, permitted := 0, accumulator := 0, ramp := .none,
    calibration := r.calibration.map Calibration.endTransit }

/-- R62 for a train made HALTED or LOST: the reserved list released together, the count 0, the pending request removed. -/
def releaseReserved (t : TrainId) (s : State) : State :=
  let s := releaseBlocks t (s.path t).reserved s
  let s := s.updPath t fun p => { p with authorised := 0 }
  removeRequest t .trainHalted s

/-- R83: every halt of a train; nothing for one that is HALTED, LOST or ABSENT. -/
def haltTrain (t : TrainId) (c : HaltCause) (s : State) : State :=
  if (s.train t).condition.isLocated then
    raise .trainHalted t.val c.code
      (releaseReserved t (offerEmergency t (s.updTrain t (TrainRecord.halt c))))
  else s

/-- The record of a train that becomes LOST (R84). -/
def TrainRecord.lose (r : TrainRecord) : TrainRecord :=
  { r with
    condition := .lost, cause := none, step := 0, target := 0, permitted := 0, guided := 0, accumulator := 0, ramp := .none,
    calibration := none }

/-- R84: a train becomes LOST. -/
def loseTrain (t : TrainId) (d : LostDetail) (s : State) : State :=
  let moving := (s.train t).condition.isLocated
  let s := s.updTrain t TrainRecord.lose
  let s := if moving then offerEmergency t s else s
  raise .trainLost t.val d.code (releaseReserved t s)

/-- CLEAR HALT's effect on the record (R86). -/
def TrainRecord.release (e : TrainEntry) (r : TrainRecord) : TrainRecord :=
  { r with
    condition := .stopped, cause := none, step := 0, target := 0, guided := 0, unseen := 0, missAllowance := e.missDistance * 1000 }

/-- R86: a HALTED train made STOPPED. -/
def releaseHalt (t : TrainId) (s : State) : State :=
  let e := s.trainEntry t
  s.updTrain t (TrainRecord.release e)

/-- R88: a train placed in its blocks, at the far end of its head. -/
def placeTrain (t : TrainId) (s : State) : State :=
  let head := headLength s t
  let miss := (s.trainEntry t).missDistance * 1000
  s.updTrain t fun r =>
    { r with
      position := head, unseen := 0, carry := 0, missAllowance := miss + head, condition := .stopped, step := 0, target := 0, guided := 0,
      accumulator := 0, ramp := .none, armed := false }

/-! ## The head advance and calibration -/

/-- The quotient of R92 before clamping: rounded to nearest with halves upward. T = 0 is the free value of log entry 1. -/
def calibrationQuotient (lengthMm step time : Nat) : Nat :=
  if time = 0 then Config.calibrationQuotientAtZeroTime lengthMm step
  else (2 * (lengthMm * 16000) + step * time) / (2 * (step * time))

/-- The clamp of R92. -/
def clampScale (k : Nat) : Nat := max 1 (min k 255)

/-- The end of a calibration transit that is running with an update counted (R92). -/
def finishCalibration (t : TrainId) (c : Calibration) (entry : Nat) (s : State) : State :=
  let old := (s.trainEntry t).speedScale
  let raw := calibrationQuotient (s.blockEntry c.block).length c.step (s.now - entry)
  let new := clampScale raw
  let s := s.updTrainEntry t fun e => { e with speedScale := new }
  let s := s.updTrain t fun r => { r with calibration := none }
  let s := raise .calDone t.val (pairDetail old new) s
  if raw = new then s else raise .calClamped t.val (pairDetail old new) s

/-- Step 2 of R77: a running transit is ended, and a pending calibration of the entered block starts its transit. -/
def calibrationAdvance (t : TrainId) (b : BlockId) (s : State) : State :=
  match (s.train t).calibration with
  | none => s
  | some c =>
    match c.entryTime, decide (0 < c.updates) with
    | some entry, true => finishCalibration t c entry s
    | _, _ =>
      let now := s.now
      s.updTrain t fun r =>
        { r with
          calibration := some (if c.block = b then { c with entryTime := some now, updates := 0 } else { c with entryTime := none }) }

/-- Step 1 of R77: EARLY_ENTRY, with the shortfall to the old head's end (log entry 17). -/
def judgeEarlyEntry (t : TrainId) (b : BlockId) (oldLength : Nat) (s : State) : State :=
  let pos := (s.train t).position
  if pos < oldLength - (s.trainEntry t).earlyTolerance * 1000 then
    raise .earlyEntry t.val (pairDetail b.val ((oldLength - pos) / 1000 / 32)) s
  else s

/-- R77: the head advance into a block, from an old head of the given length in µm. -/
def headAdvance (t : TrainId) (b : BlockId) (oldLength : Nat) (s : State) : State :=
  let s := judgeEarlyEntry t b oldLength s
  let s := calibrationAdvance t b s
  let miss := (s.trainEntry t).missDistance * 1000
  let s := s.updTrain t fun r => { r with position := 0, unseen := 0, missAllowance := miss }
  recomputeP t s

/-! ## The part mode -/

/-- R168: a change of part mode, delivered to the Interlocking (R53), the Motion Engine (R76) and the Rotor Unit (R139). -/
def setPartMode (m : PartMode) (s : State) : State :=
  let old := s.mode
  let s := { s with mgmt := { s.mgmt with mode := m } }
  let s := if m = .run then markService s else s
  let s := recomputeAllP s
  if old = .run ∧ m ≠ .run then rotorsLeaveRun s else s

/-- HOLDING becomes HOLD once every step is 0, with HOLD_REACHED (R82, R168). -/
def reportHold (s : State) : State :=
  if s.mode = .holding ∧ allStepsZero s = true then raise .holdReached noValue noValue (setPartMode .hold s) else s

/-- What an operation leaves due at its end: the Motion Engine's report of steps at 0 and the service of the Route Queue (log entries 6
and 18). -/
def settle (s : State) : State := serveIfDue (reportHold s)

/-- RUN becomes HOLDING (R168, R169): effective targets 0, and HOLD at once where every step is already 0. -/
def beginHolding (s : State) : State := settle (setPartMode .holding s)

end Sys2Proof.Machine
end

