-- ==== Sys2Proof/Machine/Notices.lean ====
section
/-!
DEFINITION. What the Interlocking and the Motion Engine make of the Input Filter's notices: entries, intrusions, strays and clears
(R57–R61), re-evaluation and auto-location (R87, R89), and turnout notices (R41, R42).
-/

namespace Sys2Proof.Machine

/-- Kind of a block notice (Table 2-6). -/
inductive NoticeKind where
  | entry | clear | restated
  deriving DecidableEq, Repr

/-! ## Block notices at the Interlocking -/

/-- Step 1 of R57: the first reserved block taken into the occupied list; a cause of service (R53). -/
def enterBlock (t : TrainId) (b : BlockId) (s : State) : State :=
  let s := s.updPath t fun p => { p with occupied := b :: p.occupied, reserved := p.reserved.tail }
  let s := s.updBlock b fun x => { x with holding := some (t, .occupied), intruded := false }
  markService (activateCrossing b s)

/-- The rear block of a path with more than 4 occupied blocks (R57 step 2). -/
def overlongRear (p : TrainPath) : Option BlockId :=
  if Config.maxOccupied < p.occupied.length then p.occupied.getLast? else none

/-- R57: an ENTRY into the first block of a train's reserved list. -/
def advanceInto (t : TrainId) (b : BlockId) (s : State) : State :=
  let oldLength := headLength s t
  let authorised := decide (0 < (s.path t).authorised)
  let s := enterBlock t b s
  let rear := overlongRear (s.path t)
  let s := match rear with
    | none => s
    | some r => releaseBlocks t [r] s
  let s := recount t (headAdvance t b oldLength s)
  let s := if rear.isSome then haltTrain t .length s else s
  if authorised then s else haltTrain t .overrun s

/-- R58 with the judgement of R76: an intrusion into a train's reserved list. -/
def intrude (t : TrainId) (b : BlockId) (s : State) : State :=
  let s := s.updBlock b fun x => { x with intruded := true }
  let s := recount t (raise .blockStray b.val t.val s)
  if canStop s t then s else haltTrain t .intrusion s

/-- R57 to R59: an ENTRY notice, the detection already updated. -/
def blockEntered (b : BlockId) (s : State) : State :=
  match (s.block b).holding with
  | some (t, .reserved) => if (s.path t).reserved.head? = some b then advanceInto t b s else intrude t b s
  | some (_, .occupied) => s
  | none => if (s.blockEntry b).enabled then raise .blockStray b.val noValue s else s

/-- The sole occupied block of a train is cleared (R60). -/
def soleBlockCleared (t : TrainId) (s : State) : State :=
  if (s.train t).condition.isLocated || (s.train t).condition = .halted then loseTrain t .cleared s else s

/-- R60: a CLEAR notice, the detection already updated. -/
def blockCleared (b : BlockId) (s : State) : State :=
  match (s.block b).holding with
  | some (t, .occupied) =>
    match (s.path t).occupied with
    | [_] => soleBlockCleared t s
    | occ =>
      if occ.getLast? = some b then
        let s := releaseBlocks t [b] s
        match (s.path t).occupied with
        | [c] => if (s.block c).detection = .clear then soleBlockCleared t s else s
        | _ => s
      else s
  | some (_, .reserved) => s
  | none => if (s.blockEntry b).enabled then markService s else s

/-- R61: a RESTATED notice, the detection already updated. -/
def blockRestated (b : BlockId) (new : Detection) (s : State) : State :=
  match new, (s.block b).holding with
  | .occupied, some (t, .reserved) => if (s.train t).condition.isLocated then blockEntered b s else s
  | .clear, some (t, .occupied) => if (s.train t).condition.isLocated then blockCleared b s else s
  | .clear, none => if (s.blockEntry b).enabled then markService s else s
  | _, _ => s

/-- R57 to R61: a block notice at the Interlocking. -/
def interlockingNotice (b : BlockId) (new : Detection) (k : NoticeKind) (s : State) : State :=
  let s := s.updBlock b fun x => { x with detection := new }
  match k with
  | .entry => blockEntered b s
  | .clear => blockCleared b s
  | .restated => blockRestated b new s

/-! ## Block notices at the Motion Engine -/

/-- The Input Filter's view of a block (R30). -/
def State.view (s : State) (b : BlockId) : BlockView := s.filter.blocks[b]

/-- R87: a train HALTED with cause LOOP re-evaluated on a notice for a block. -/
def reevaluate (b : BlockId) (t : TrainId) (s : State) : State :=
  let occ := (s.path t).occupied
  if (s.train t).condition = .halted && (s.train t).cause = some .loop && occ.contains b && s.qualified
      && occ.all (fun c => (s.view c).fullyFresh) then
    if occ.all (fun c => (s.view c).detection = .occupied) then releaseHalt t s
    else loseTrain t .reevaluation (releaseBlocks t occ.tail s)
  else s

/-- R62: a block taken into a LOST train's empty occupied list. -/
def occupyAlone (t : TrainId) (b : BlockId) (s : State) : State :=
  let s := s.updPath t fun p => { p with occupied := [b] }
  activateCrossing b (s.updBlock b fun x => { x with holding := some (t, .occupied) })

/-- R89: the conditions of auto-location of a train at a block. -/
def autoLocatable (s : State) (t : TrainId) (b : BlockId) : Bool :=
  (s.trainEntry t).enabled && (s.train t).condition = .lost && (s.train t).armed && s.qualified && (s.path t).occupied.isEmpty
    && (s.view b).detection = .occupied && (s.view b).fullyFresh && (s.block b).holding.isNone

/-- R62: the Interlocking takes the block only when it is enabled, unheld and detected OCCUPIED. -/
def interlockingAccepts (s : State) (b : BlockId) : Bool :=
  (s.blockEntry b).enabled && (s.block b).holding.isNone && (s.block b).detection = .occupied

/-- R89: an armed train judged for auto-location at its home block. -/
def autoLocate (t : TrainId) (s : State) : State :=
  match (s.trainEntry t).home with
  | none => s
  | some b => if autoLocatable s t b && interlockingAccepts s b then placeTrain t (occupyAlone t b s) else s

/-- A block notice at the Motion Engine: re-evaluation (R87) and then auto-location (R89), in this order by log entry 16. -/
def motionNotice (b : BlockId) (s : State) : State :=
  let s := forAll (reevaluate b) s
  forAll (fun t s => if (s.trainEntry t).home = some b then autoLocate t s else s) s

/-- R31: a block notice delivered to the Interlocking, the Motion Engine and, for an ENTRY or CLEAR, the Cue Engine (log entry 16). -/
def deliverBlockNotice (b : BlockId) (new : Detection) (k : NoticeKind) (s : State) : State :=
  let s := settle (interlockingNotice b new k s)
  let s := settle (motionNotice b s)
  match k with
  | .entry => deliverCue (deviceEvent (.blockEnter b)) s
  | .clear => deliverCue (deviceEvent (.blockClear b)) s
  | .restated => s

/-! ## Turnout notices -/

/-- R41 and R42: a turnout notice with the new indication. -/
def turnoutNotice (u : TurnoutId) (new : Indication) (s : State) : State :=
  let s := s.updTurnout u fun x => { x with indication := new }
  if (s.turnoutEntry u).feedback then
    let shown := shownPosition s.tables u new
    match (s.turnout u).condition with
    | .moving => if shown.isSome && shown = (s.turnout u).commanded then completeThrow u s else s
    | .set => if new ≠ .unknown ∧ shown ≠ (s.turnout u).position then faultTurnout u .feedback s else s
    | .free => if new = .unknown then s else s.updTurnout u fun x => { x with position := shown }
    | .fault => s
  else s

end Sys2Proof.Machine
end

