-- ==== Sys2Proof/Machine/SensorInputs.lean ====
section
/-!
DEFINITION. The Input Filter (Chapter 2): a SENSE report (R24–R26), filter timer expiry (R27), staleness (R29), the derivation of block
detection and turnout indication (R30, R32), and the delivery of notices and edges in order (R31, R33, R34). Commands: SENSE_RECEIVED's
effect on the Input Filter, FILTER_TIMER_EXPIRY.
-/

namespace Sys2Proof.Machine

/-! ## Derivation -/

/-- Enabled entries with a function. -/
def entriesOf (ts : Tables) (f : SensorFunction) : List EntryId :=
  (List.finRange 128).filter fun e => ts.sensors[e].enabled && ts.sensors[e].function = f

/-- R30: detection and fully-fresh flag of a block, by Table 2-5. -/
def deriveBlock (ts : Tables) (xs : Vector SensorState 128) (b : BlockId) : BlockView :=
  let es := entriesOf ts (.occupancy b)
  { detection :=
      if es.isEmpty then .unknown
      else if es.any (fun e => xs[e].fresh && xs[e].filtered) then .occupied
      else if es.all (fun e => xs[e].fresh && !xs[e].filtered) then .clear
      else .unknown
    fullyFresh := !es.isEmpty && es.all fun e => xs[e].fresh }

/-- R32: indication of a turnout, by Table 2-7. -/
def deriveTurnout (ts : Tables) (xs : Vector SensorState 128) (u : TurnoutId) : Indication :=
  let ns := entriesOf ts (.turnoutNormal u)
  let rs := entriesOf ts (.turnoutReverse u)
  let n := ns.any fun e => xs[e].filtered
  let r := rs.any fun e => xs[e].filtered
  if ns.isEmpty && rs.isEmpty then .unknown
  else if (ns ++ rs).any (fun e => !xs[e].fresh) then .unknown
  else
    match n, r with
    | true, false => .normal
    | false, true => .reverse
    | true, true => .both
    | false, false => .none

/-- Cause of a derivation (R31). -/
inductive DeriveCause where
  | edge | freshness
  deriving DecidableEq, Repr

/-- Table 2-6. -/
def noticeKind (old new : Detection) : DeriveCause → NoticeKind
  | .freshness => .restated
  | .edge =>
    match old, new with
    | .clear, .occupied => .entry
    | .unknown, .occupied => .entry
    | .occupied, .clear => .clear
    | _, _ => .restated

/-- A block's notice, if its view changed (R31). -/
def notifyBlock (b : BlockId) (old : BlockView) (c : DeriveCause) (s : State) : State :=
  if s.view b = old then s
  else deliverBlockNotice b (s.view b).detection (noticeKind old.detection (s.view b).detection c) s

/-- A turnout's notice, if its indication changed (R32). -/
def notifyTurnout (u : TurnoutId) (old : Indication) (s : State) : State :=
  if s.filter.turnouts[u] = old then s else turnoutNotice u s.filter.turnouts[u] s

/-! ## One event's updates -/

/-- What an event did to an entry. -/
structure EntryChange where
  freshness : Bool
  edge : Bool
  deriving DecidableEq, Repr

/-- The entries an event updates, each with its new state and what changed; in ascending order of index. -/
abbrev EntryUpdates := List (EntryId × SensorState × EntryChange)

/-- The updated entries' states put in place. -/
def putEntries (us : EntryUpdates) (s : State) : State := us.foldl (fun s p => s.updSensor p.1 fun _ => p.2.1) s

/-- Detection of a block derived anew and held. -/
def rederiveBlock (b : BlockId) (s : State) : State :=
  { s with filter := { s.filter with blocks := s.filter.blocks.set b (deriveBlock s.tables s.filter.entries b) } }

/-- Indication of a turnout derived anew and held. -/
def rederiveTurnout (u : TurnoutId) (s : State) : State :=
  { s with filter := { s.filter with turnouts := s.filter.turnouts.set u (deriveTurnout s.tables s.filter.entries u) } }

/-- The derivation that an entry's function calls for (R30, R32). -/
def rederiveFor (f : SensorFunction) (s : State) : State :=
  match f with
  | .occupancy b => rederiveBlock b s
  | .turnoutNormal u => rederiveTurnout u s
  | .turnoutReverse u => rederiveTurnout u s
  | _ => s

/-- The cause of the derivation of a block: FRESHNESS when an entry concerned changed its freshness (R31). -/
def causeFor (ts : Tables) (us : EntryUpdates) (b : BlockId) : DeriveCause :=
  if us.any fun p => ts.sensors[p.1].function = .occupancy b && p.2.2.freshness then .freshness else .edge

/-- The turnout that a function concerns. -/
def SensorFunction.turnout : SensorFunction → Option TurnoutId
  | .turnoutNormal u => some u
  | .turnoutReverse u => some u
  | _ => none

/-- The delivery of one updated entry (R33, R34): a block's or turnout's notice stands at its lowest-indexed updated entry, that is, at the
entry for which none of the earlier entries concerns it. -/
def deliverEntry (old : InputFilter) (us : EntryUpdates) (earlier : List EntryId) (p : EntryId × SensorState × EntryChange) (s : State) :
    State :=
  let f := (s.sensorEntry p.1).function
  match f with
  | .occupancy b =>
    if earlier.any fun e => (s.sensorEntry e).function = f then s else notifyBlock b old.blocks[b] (causeFor s.tables us b) s
  | .turnoutNormal u =>
    if earlier.any fun e => (s.sensorEntry e).function.turnout = some u then s else notifyTurnout u old.turnouts[u] s
  | .turnoutReverse u =>
    if earlier.any fun e => (s.sensorEntry e).function.turnout = some u then s else notifyTurnout u old.turnouts[u] s
  | .button => if p.2.2.edge && p.2.1.filtered then deliverCue (deviceEvent (.button p.1)) s else s
  | .index r => if p.2.2.edge && p.2.1.filtered then indexEdge r p.1 s else s
  | .spare =>
    if p.2.2.edge then deliverCue (deviceEvent (if p.2.1.filtered then .spareRise p.1 else .spareFall p.1)) s else s

/-- The deliveries of an event in ascending order of entry index (R34). -/
def deliverEntries (old : InputFilter) (us : EntryUpdates) : List EntryId → EntryUpdates → State → State
  | _, [], s => s
  | earlier, p :: rest, s => deliverEntries old us (p.1 :: earlier) rest (deliverEntry old us earlier p s)

/-- One event at the Input Filter: all entries are updated first, detection and indication are derived once, and each change is delivered
once (R24). -/
def applyUpdates (us : EntryUpdates) (s : State) : State :=
  let old := s.filter
  let s := putEntries us s
  let s := us.foldl (fun s p => if (s.sensorEntry p.1).enabled then rederiveFor (s.sensorEntry p.1).function s else s) s
  deliverEntries old us [] us s

/-! ## The events -/

/-- An entry made STALE: its timer cancelled, raw and filtered kept (R29). -/
def SensorState.makeStale (x : SensorState) : SensorState := { x with fresh := false, timer := none }

/-- Enabled entries of a node. -/
def entriesOfNode (ts : Tables) (node : Nat) : List EntryId :=
  (List.finRange 128).filter fun e => ts.sensors[e].enabled && ts.sensors[e].node = node

/-- The updates that make the FRESH ones of some entries STALE (R29). -/
def staleUpdates (s : State) (es : List EntryId) : EntryUpdates :=
  (es.filter fun e => (s.sensor e).fresh).map fun e => (e, (s.sensor e).makeStale, { freshness := true, edge := false })

/-- The Loop Monitor reaches QUALIFIED: every entry becomes STALE (R7, R29). -/
def markAllStale (s : State) : State := applyUpdates (staleUpdates s (List.finRange 128)) s

/-- R25 and R26 (Table 2-4): a valid report on an entry with its raw state. -/
def reportEntry (e : SensorEntry) (raw : Bool) (x : SensorState) : SensorState × EntryChange :=
  if x.fresh then
    match x.timer with
    | none =>
      if raw = x.filtered then ({ x with raw := raw }, { freshness := false, edge := false })
      else if e.filterTime = 0 then ({ x with raw := raw, filtered := raw }, { freshness := false, edge := true })
      else ({ x with raw := raw, timer := some e.filterTime }, { freshness := false, edge := false })
    | some _ =>
      if raw = x.filtered then ({ x with raw := raw, timer := none }, { freshness := false, edge := false })
      else ({ x with raw := raw }, { freshness := false, edge := false })
  else ({ x with raw := raw, filtered := raw, fresh := true }, { freshness := true, edge := false })

/-- The raw state of an entry in a SENSE: its input bit, exclusive-or its invert flag (R24). -/
def rawOf (e : SensorEntry) (payload : List Byte) : Bool := (n2 payload 0).testBit e.input != e.invert

/-- The updates of a valid SENSE from a node. -/
def reportUpdates (s : State) (node : Nat) (payload : List Byte) : EntryUpdates :=
  (entriesOfNode s.tables node).map fun e => (e, reportEntry (s.sensorEntry e) (rawOf (s.sensorEntry e) payload) (s.sensor e))

/-- R24: a SENSE from a node at the Input Filter. -/
def takeSense (node : Nat) (payload : List Byte) (s : State) : State :=
  if payload.length ≠ 3 then s
  else if n1 payload 2 ≠ 0 then applyUpdates (staleUpdates s (entriesOfNode s.tables node)) s
  else applyUpdates (reportUpdates s node payload) s

/-- R27: an entry's filter timer expires; nothing where it does not run. -/
def expireFilter (e : EntryId) (s : State) : State :=
  match (s.sensor e).timer with
  | none => s
  | some _ =>
    let x := s.sensor e
    applyUpdates [(e, { x with filtered := x.raw, timer := none }, { freshness := false, edge := x.raw != x.filtered })] s

/-- Detection and indication derived anew after a Sensor Map write, and each change delivered with cause FRESHNESS (R22). -/
def rederiveAfterWrite (bs : List BlockId) (us : List TurnoutId) (s : State) : State :=
  let old := s.filter
  let s := bs.foldl (fun s b => rederiveBlock b s) s
  let s := us.foldl (fun s u => rederiveTurnout u s) s
  let s := bs.foldl (fun s b => notifyBlock b old.blocks[b] .freshness s) s
  us.foldl (fun s u => notifyTurnout u old.turnouts[u] s) s

/-- FILTER_TIMER_EXPIRY (R27). -/
def execFilterTimerExpiry (entry : EntryId) (s : State) : Host.Outcome State Fault Refusal := .next (expireFilter entry s)

end Sys2Proof.Machine
end

