-- ==== Sys2Proof/Machine/LoopRing.lean ====
section
/-!
DEFINITION. The Loop Monitor (Section 1.2): ECHO sending and judgement (R3, R4), the transitions of Table 1-3 (R5), LOOP_DOWN (R6) and
LOOP_UP (R7). Commands: ECHO_INTERVAL_EXPIRY, WATCHDOG_EXPIRY, F_OUT_TRANSMIT_COMPLETE.
-/

namespace Sys2Proof.Machine

def State.updLoop (s : State) (f : LoopMonitor → LoopMonitor) : State := { s with loop := f s.loop }

/-- Codes in the order of Table 1-2. -/
def DownCause.code : DownCause → Nat
  | .errors => 0 | .timeout => 1

/-- The watchdog started for twice the echo interval in force (R2, R5). -/
def restartWatchdog (s : State) : State :=
  let d := 2 * s.tables.loop.echoInterval
  s.updLoop fun l => { l with watchdog := some d }

/-- A change of Loop Monitor state, on which P is recomputed for every train (R76). -/
def setLoopState (st : LoopState) (s : State) : State := recomputeAllP (s.updLoop fun l => { l with state := st })

/-- R6: the state leaves QUALIFIED for DOWN. The trains, and after them the rotors, are halted in ascending order (log entry 31). -/
def loopDown (c : DownCause) (s : State) : State :=
  let s := setLoopState .down (s.updLoop fun l => { l with downCause := some c })
  let s := offerUrgent .allStop allStopFrame s
  let s := s.purgePass fun f => f.isMotion || f.kind = kindSwitch
  let s := forAll (fun t s => haltTrain t .loop s) s
  let s := forAll (fun r s => haltRotor r .loop s) s
  let s := raise .loopDown noValue c.code s
  settle (deliverCue (deviceEvent .loopDown) s)

/-- R7: the state becomes QUALIFIED. -/
def loopUp (s : State) : State :=
  let s := setLoopState .qualified s
  let s := offerUrgent .senseRequest senseRequestFrame s
  let s := markAllStale s
  let s := raise .loopUp noValue noValue s
  settle (markService (deliverCue (deviceEvent .loopUp) s))

/-- R5: a good echo, by Table 1-3. -/
def goodEcho (s : State) : State :=
  let s := restartWatchdog (s.updLoop fun l => { l with errorCount := l.errorCount - 1 })
  let q := s.tables.loop.passThreshold
  match s.loop.state with
  | .down =>
    let s := s.updLoop fun l => { l with goodCount := 1 }
    if q = 1 then loopUp s else setLoopState .proving s
  | .proving =>
    let s := s.updLoop fun l => { l with goodCount := l.goodCount + 1 }
    if q ≤ s.loop.goodCount then loopUp s else s
  | .qualified => s

/-- R5: a check or format error at F-in, by Table 1-3. -/
def loopError (s : State) : State :=
  let s := s.updLoop fun l => { l with errorCount := min (l.errorCount + 1) 15 }
  match s.loop.state with
  | .down => s
  | .proving => s.updLoop fun l => { l with goodCount := 0 }
  | .qualified =>
    if s.tables.loop.errorThreshold ≤ s.loop.errorCount then
      loopDown .errors (s.updLoop fun l => { l with errorCount := 0, goodCount := 0 })
    else s

/-- R5: the watchdog expires, by Table 1-3. -/
def watchdogExpires (s : State) : State :=
  let s := restartWatchdog s
  match s.loop.state with
  | .down => s
  | .proving => setLoopState .down (s.updLoop fun l => { l with goodCount := 0, downCause := some .timeout })
  | .qualified => loopDown .timeout (s.updLoop fun l => { l with goodCount := 0 })

/-- R4: whether an ECHO's payload is the echo that is outstanding; an ECHO whose LEN is not 1 carries no number (R178). -/
def echoIsGood (l : LoopMonitor) (payload : List Byte) : Bool := l.echoOutstanding && payload = [l.echoNumber]

/-- R4: an ECHO with SRC 0 judged and counted. -/
def takeEcho (payload : List Byte) (s : State) : State :=
  if echoIsGood s.loop payload then
    goodEcho ((s.updLoop fun l => { l with echoOutstanding := false }).countFIn PortTotals.addConsumed)
  else s.dropFIn .staleEcho

/-- R3: the interval timer expires; nothing where it does not run. -/
def sendEcho (s : State) : State :=
  match s.loop.intervalTimer with
  | none => s
  | some _ =>
    let d := s.tables.loop.echoInterval
    let s := s.updLoop fun l => { l with echoNumber := l.echoNumber + 1, echoOutstanding := true, intervalTimer := some d }
    offerUrgent .echo (echoFrame s.loop.echoNumber) s

/-- ECHO_INTERVAL_EXPIRY (R3). -/
def execEchoIntervalExpiry (s : State) : Host.Outcome State Fault Refusal := .next (sendEcho s)

/-- WATCHDOG_EXPIRY (R5); nothing where the watchdog does not run. -/
def execWatchdogExpiry (s : State) : Host.Outcome State Fault Refusal :=
  .next (match s.loop.watchdog with
    | none => s
    | some _ => watchdogExpires s)

/-- The sent counter of a queue (R14, R19). -/
def FOutCounters.addSent (c : FOutCounters) : FOutSource → FOutCounters
  | .urgent => { c with sentUrgent := c.sentUrgent + 1 }
  | .engine => { c with sentEngine := c.sentEngine + 1 }
  | .pass => { c with sentPass := c.sentPass + 1 }

/-- R14: F-out completes the frame in transmission, and the Output Arbiter grants the next; nothing while F-out is idle. -/
def completeFOut (s : State) : State :=
  match s.field.transmitting with
  | none => s
  | some (q, _) =>
    let s := s.countFOut fun c => c.addSent q
    { s with field := { s.field with transmitting := none }.grant }

/-- F_OUT_TRANSMIT_COMPLETE (R14). -/
def execFOutTransmitComplete (s : State) : Host.Outcome State Fault Refusal := .next (completeFOut s)

end Sys2Proof.Machine
end

