-- ==== Sys2Proof/Machine/Motion.lean ====
section
/-!
DEFINITION. The motion update (R69–R75) and the Motion Engine's timers and requests. Commands: MOTION_UPDATE, TRAIN_REFRESH_EXPIRY,
GUIDE_TIMER_EXPIRY, THROW_TIMER_EXPIRY, WARN_TIMER_EXPIRY, WAIT_TIMER_EXPIRY; the requests on trains, turnouts and blocks.
-/

namespace Sys2Proof.Machine

/-! ## The motion update -/

/-- The quarter-micrometres of one advance (R70). -/
def advanceQuarters (s : State) (t : TrainId) : Nat := (s.train t).step * (s.trainEntry t).speedScale * 5 + (s.train t).carry

/-- The check of a running calibration transit at an update (R92). -/
def Calibration.atUpdate (step : Nat) (c : Calibration) : Calibration :=
  if c.entryTime.isSome then
    if step = c.step then { c with updates := c.updates + 1 } else { c with entryTime := none }
  else c

/-- The position and the unseen distance after an advance (R70). -/
def advancePosition (s : State) (t : TrainId) : State :=
  let x := advanceQuarters s t
  let len := headLength s t
  s.updTrain t fun r =>
    if len < r.position + x / 4 then
      { r with position := len, unseen := r.unseen + (r.position + x / 4 - len), carry := x % 4 }
    else { r with position := r.position + x / 4, carry := x % 4 }

/-- Whether an advance from this state runs past the end of the head block (R70). -/
def runsPast (s : State) (t : TrainId) : Bool := headLength s t < (s.train t).position + advanceQuarters s t / 4

/-- Stage 1, the advance (R70). -/
def advanceStage (t : TrainId) (s : State) : State :=
  let past := runsPast s t
  let s := advancePosition s t
  if past && decide ((s.train t).missAllowance < (s.train t).unseen) then haltTrain t .miss s
  else s.updTrain t fun r => { r with calibration := r.calibration.map (Calibration.atUpdate r.step) }

/-- The effective target E of R73 (and R82: 0 in HOLDING). -/
def effectiveTarget (s : State) (t : TrainId) : Nat :=
  let r := s.train t
  let base := if s.mode = .holding then 0 else match (s.trainEntry t).mode with
    | .auto => r.target
    | .guided => r.guided
  let capped := match (s.trainEntry t).mode, r.calibration with
    | .auto, some c => min base c.step
    | _, _ => base
  min capped r.permitted

/-- The step's move toward E (R73). -/
def rampTrain (e : TrainEntry) (target : Nat) (r : Ramp) : Ramp :=
  let moved :=
    if r.step < target then
      if r.step = 0 ∧ 0 < e.startStep then
        { step := if e.startStep ≤ target then e.startStep else 0, accumulator := 0, direction := .up }
      else r.rise e.acceleration target
    else if target < r.step then
      let f := r.fall e.deceleration target
      if target = 0 ∧ 0 < f.step ∧ f.step < e.startStep then { f with step := 0 } else f
    else r
  moved.settle target

/-- The state of a train after the new-step stage (R73). -/
def conditionAfter (old new target permitted : Nat) : TrainCondition :=
  if new = 0 ∧ target = 0 then .stopped
  else if permitted < old ∨ permitted < new then .braking
  else .running

/-- Stage 3, the new step (R73). -/
def newStepStage (t : TrainId) (s : State) : State :=
  let e := s.trainEntry t
  let target := effectiveTarget s t
  s.updTrain t fun r =>
    let m := rampTrain e target { step := r.step, accumulator := r.accumulator, direction := r.ramp }
    { r with
      step := m.step, accumulator := m.accumulator, ramp := m.direction,
      condition := conditionAfter r.step m.step target r.permitted }

/-- The head block of a train as an event's detail. -/
def headDetail (s : State) (t : TrainId) : Nat :=
  match (s.path t).occupied with
  | [] => noValue
  | b :: _ => b.val

/-- Stage 5, the arrival check (R74). -/
def arrivalStage (t : TrainId) (old : Nat) (s : State) : State :=
  if decide (0 < old) && (s.train t).step = 0 && (s.path t).reserved.isEmpty then
    let s := raise .trainArrived t.val (headDetail s t) s
    let s := deliverCue (deviceEvent (.trainArrived t)) s
    s.updTrain t fun r => { r with target := 0 }
  else s

/-- Stages 2 to 6 of the motion update (R69), after an advance that made no halt. -/
def updateAfterAdvance (t : TrainId) (old : Nat) (s : State) : State :=
  let p := permittedStep s t
  let s := s.updTrain t fun r => { r with permitted := p }
  let s := newStepStage t s
  if remainingAuthority s t = 0 ∧ 0 < (s.train t).step then haltTrain t .overrun s
  else
    let s := arrivalStage t old s
    if (s.train t).step = old then s else offerDrive t s

/-- The motion update of one train (R69): nothing for one in ABSENT, LOST or HALTED. -/
def updateTrain (t : TrainId) (s : State) : State :=
  if (s.train t).condition.isLocated then
    let old := (s.train t).step
    let s := advanceStage t s
    settle (if (s.train t).condition.isLocated then updateAfterAdvance t old s else s)
  else s

/-- MOTION_UPDATE (R69): the timer is restarted and every train updated; nothing where the timer does not run. DESIGN CHOICE: the trains
are updated in ascending index (log entry 37). -/
def execMotionUpdate (s : State) : Host.Outcome State Fault Refusal :=
  .next (match s.motion.updateTimer with
    | none => s
    | some _ => forAll updateTrain { s with motion := { s.motion with updateTimer := some Config.motionPeriod } })

/-! ## Timers -/

/-- TRAIN_REFRESH_EXPIRY (R75). -/
def execTrainRefreshExpiry (train : TrainId) (s : State) : Host.Outcome State Fault Refusal :=
  .next (match (s.train train).refreshTimer with
    | none => s
    | some _ => offerDrive train s)

/-- R80: a guide timer expires. -/
def expireGuide (t : TrainId) (s : State) : State :=
  raise .guideTimeout t.val noValue (s.updTrain t fun r => { r with guided := 0, guideTimer := none })

/-- GUIDE_TIMER_EXPIRY (R80). -/
def execGuideTimerExpiry (train : TrainId) (s : State) : Host.Outcome State Fault Refusal :=
  .next (match (s.train train).guideTimer with
    | none => s
    | some _ => expireGuide train s)

/-- R41: a throw timer expires. -/
def expireThrow (u : TurnoutId) (s : State) : State :=
  let x := s.turnout u
  let shown := shownPosition s.tables u x.indication
  if !(s.turnoutEntry u).feedback || (shown.isSome && shown = x.commanded) then completeThrow u s else faultTurnout u .timeout s

/-- THROW_TIMER_EXPIRY (R41). -/
def execThrowTimerExpiry (turnout : TurnoutId) (s : State) : Host.Outcome State Fault Refusal :=
  .next (match (s.turnout turnout).throwTimer with
    | none => s
    | some _ => expireThrow turnout s)

/-- The holder's count recomputed, where a block has a holder (R48, R65). -/
def recountHolderOfBlock (b : BlockId) (s : State) : State :=
  match (s.block b).holding with
  | none => s
  | some (t, _) => recount t s

/-- R48: a warn timer expires. -/
def expireWarn (b : BlockId) (s : State) : State :=
  recountHolderOfBlock b (s.updBlock b fun x => { x with crossing := .active, warnTimer := none })

/-- WARN_TIMER_EXPIRY (R48). -/
def execWarnTimerExpiry (block : BlockId) (s : State) : Host.Outcome State Fault Refusal :=
  .next (match (s.block block).warnTimer with
    | none => s
    | some _ => expireWarn block s)

/-- R55: the wait timer of a train's request expires. -/
def expireWait (t : TrainId) (q : RouteRequest) (s : State) : State :=
  deliverCue (deviceEvent (.routeTimeout t)) (raise .routeTimeout t.val q.route.val (dequeue t s))

/-- WAIT_TIMER_EXPIRY (R55). -/
def execWaitTimerExpiry (train : TrainId) (s : State) : Host.Outcome State Fault Refusal :=
  .next (match requestOfTrain s train with
    | none => s
    | some q =>
      match q.waitTimer with
      | none => s
      | some _ => expireWait train q s)

/-! ## Requests on trains, turnouts and blocks -/

/-- R43, TURNOUT RETRY for a turnout whose index is in range. Without a commanded position the target is the free value of log entry 19. -/
def retryTurnout (u : TurnoutId) (s : State) : Status × State :=
  if !(s.turnoutEntry u).enabled || decide ((s.turnout u).condition ≠ .fault) then (.notAvailable, s)
  else if s.qualified = false then (.notReady, s)
  else
    let p := (s.turnout u).commanded.getD (if Config.retryReversed u.val then .reverse else .normal)
    (.ok, throwTurnout u p s)

/-- R63, LOCATE for a train and blocks whose indexes are in range. -/
def locateTrain (t : TrainId) (bs : List BlockId) (s : State) : Status × State :=
  if s.mode ≠ .hold then (.wrongMode, s)
  else if bs.isEmpty || decide (Config.maxOccupied < bs.length) || !decide bs.Nodup then (.badValue, s)
  else if (s.train t).condition ≠ .lost ∨
      bs.any (fun b => !(s.blockEntry b).enabled || decide ((s.block b).detection ≠ .occupied)
        || ((s.block b).holding.any fun h => h.1 ≠ t)) = true then (.notAvailable, s)
  else
    let s := releaseBlocks t ((s.path t).occupied ++ (s.path t).reserved) s
    let s := s.updPath t fun _ => { occupied := bs, reserved := [], authorised := 0 }
    let s := bs.foldl (fun s b => activateCrossing b (s.updBlock b fun x => { x with holding := some (t, .occupied) })) s
    (.ok, settle (placeTrain t s))

/-- R64, REMOVE for a train whose index is in range. -/
def removeTrain (t : TrainId) (s : State) : Status × State :=
  match (s.train t).condition with
  | .absent => (.notAvailable, s)
  | .running => (.notAvailable, s)
  | .braking => (.notAvailable, s)
  | _ =>
    let s := removeRequest t .trainHalted s
    let s := releaseBlocks t ((s.path t).occupied ++ (s.path t).reserved) s
    let s := loseTrain t .removed s
    (.ok, settle (s.updTrain t fun r => { r with armed := false }))

/-- R86, CLEAR HALT for a train whose index is in range. -/
def clearHalt (t : TrainId) (s : State) : Status × State :=
  if (s.train t).condition = .halted ∧ (s.path t).occupied.all (fun b => (s.block b).detection = .occupied) = true then
    (.ok, releaseHalt t s)
  else (.notAvailable, s)

/-- The other direction value (R90). -/
def Direction.other : Direction → Direction
  | .forward => .reverse
  | .reverse => .forward

/-- R90, REVERSE for a train whose index is in range. -/
def reverseTrain (t : TrainId) (s : State) : Status × State :=
  if (s.train t).condition = .stopped ∧ (s.path t).reserved = [] then
    let s := s.updPath t fun p => { p with occupied := p.occupied.reverse }
    let s := removeRequest t .pathChanged s
    let s := s.updTrainEntry t fun e => { e with direction := e.direction.other }
    let s := placeTrain t s
    (.ok, s.updTrain t fun r => { r with calibration := r.calibration.map Calibration.endTransit })
  else (.notAvailable, s)

/-- R81, SET TRAIN MODE for a train whose index is in range. -/
def setTrainMode (t : TrainId) (m : TrainMode) (s : State) : Status × State :=
  if (s.train t).condition = .absent then (.notAvailable, s)
  else if (s.trainEntry t).mode = m then (.ok, s)
  else
    let s := s.updTrainEntry t fun e => { e with mode := m }
    (.ok, s.updTrain t fun r =>
      { r with guided := 0, guideTimer := none, calibration := if m = .guided then none else r.calibration })

/-- R91, CALIBRATE for a train and a block whose indexes are in range. -/
def calibrateTrain (t : TrainId) (b : BlockId) (step : Nat) (s : State) : Status × State :=
  if step = 0 ∨ Config.maxStep < step ∨ (s.blockEntry b).enabled = false then (.badValue, s)
  else if (s.trainEntry t).mode = .auto ∧ ((s.train t).condition = .stopped ∨ (s.train t).condition = .running) then
    (.accepted, s.updTrain t fun r => { r with calibration := some { block := b, step := step, entryTime := none, updates := 0 } })
  else (.notAvailable, s)

/-- R91, CANCEL CALIBRATION for a train whose index is in range. -/
def cancelCalibration (t : TrainId) (s : State) : Status × State :=
  if (s.train t).calibration.isNone then (.notAvailable, s) else (.ok, s.updTrain t fun r => { r with calibration := none })

/-- R65, CLEAR BLOCK for a block whose index is in range. -/
def clearBlock (b : BlockId) (s : State) : Status × State :=
  if (s.block b).intruded = true ∧ (s.block b).detection = .clear then
    (.ok, recountHolderOfBlock b (s.updBlock b fun x => { x with intruded := false }))
  else (.notAvailable, s)

/-- R85, STOP ALL: ALLSTOP, then every train and every rotor halted in ascending order, then the part mode HOLD. -/
def stopAll (s : State) : State :=
  let s := offerUrgent .allStop allStopFrame s
  let s := forAll (fun t s => haltTrain t .stopAll s) s
  let s := forAll (fun r s => haltRotor r .stopAll s) s
  serveIfDue (setPartMode .hold s)

end Sys2Proof.Machine
end

