-- ==== Sys2Proof/Machine/Clock.lean ====
section
/-!
DEFINITION. The Day Clock (Chapter 5): the 1 ms advance (R96–R98), setting the time and the rate (R99–R101), the sky level (R103) and the
ambient level (R104–R107). Commands: DAY_CLOCK_TICK, AMBIENT_TIMER_EXPIRY.
-/

namespace Sys2Proof.Machine

def State.updClock (s : State) (f : DayClock → DayClock) : State := { s with clock := f s.clock }

/-! ## The curves -/

/-- Linear interpolation between two points, the division truncated toward zero (R103, R105). -/
def interpolate (la lb : Nat) (t ta tb : Nat) : Nat :=
  ((la : Int) + Int.tdiv (((lb : Int) - la) * ((t : Int) - ta)) ((tb : Int) - ta)).toNat

/-- The last point of a list at or before a key, with the point after it where there is one. -/
def segmentAt (x : Nat) : List (Nat × Nat) → Option ((Nat × Nat) × Option (Nat × Nat))
  | [] => none
  | [p] => if p.1 ≤ x then some (p, none) else none
  | p :: q :: rest => if q.1 ≤ x then segmentAt x (q :: rest) else if p.1 ≤ x then some (p, some q) else none

/-- R103: the sky level at a virtual second; the curve is read as a closed loop. -/
def skyLevel (points : List (Nat × Nat)) (second : Nat) : Nat :=
  let ps := points.map fun p => (p.1 * 60, p.2)
  match ps.head?, ps.getLast? with
  | some f, some l =>
    match segmentAt second ps with
    | some (a, some b) => interpolate a.2 b.2 second a.1 b.1
    | some (a, none) => interpolate a.2 f.2 second a.1 (f.1 + 86400)
    | none => interpolate l.2 f.2 (second + 86400) l.1 (f.1 + 86400)
  | _, _ => 0

/-- R105: the curve level for a ratio; the curve does not wrap. -/
def ambientLevel (points : List (Nat × Nat)) (q : Nat) : Nat :=
  match points.head?, segmentAt q points with
  | some f, none => f.2
  | _, some (a, some b) => interpolate a.2 b.2 q a.1 b.1
  | _, some (a, none) => a.2
  | none, none => 0

/-- S recomputed (R103). -/
def recomputeSky (s : State) : State :=
  let points := s.tables.sky
  s.updClock fun c => { c with sky := skyLevel points c.second }

/-! ## The 1 ms advance -/

/-- R96: the normal advance. -/
def DayClock.normalAdvance (c : DayClock) : Nat := (c.rate + c.fraction) / 16

/-- R97: the advance of an expiry and the slew remainder after it. -/
def slewed (n : Nat) : Option Int → Nat × Option Int
  | none => (n, none)
  | some r =>
    if 0 ≤ r then
      let extra := min n r.toNat
      (n + extra, some (r - extra))
    else
      let withheld := min (n - n / 2) (-r).toNat
      (n - withheld, some (r + withheld))

/-- The minute boundary that an advance from a virtual time passes (R98): the last whole minute at or before the end, where it lies after the
start. -/
def minutePassed (v a : Nat) : Option Nat :=
  let k := (v + a) / 60000
  if v < k * 60000 then some (k % 1440) else none

/-- The clock with an advance added, wrapped at the end of the day (R98). -/
def DayClock.addAdvance (a : Nat) (c : DayClock) : DayClock :=
  if Config.dayLength ≤ c.virtualTime + a then
    { c with virtualTime := c.virtualTime + a - Config.dayLength, day := (c.day + 1) % 65536 }
  else { c with virtualTime := c.virtualTime + a }

/-- Whether a slew that was active has reached its end (R97). -/
def slewEnded (before after : Option Int) : Bool := before.isSome && after = some 0

/-- R96 to R98: one expiry of the 1 ms timer. -/
def clockTick (s : State) : State :=
  let c := s.clock
  let n := c.normalAdvance
  let adv := slewed n c.slew
  let done := slewEnded c.slew adv.2
  let s := { s with now := s.now + 1 }
  let s := s.updClock fun c =>
    { c.addAdvance adv.1 with
      fraction := (c.rate + c.fraction) % 16, slew := if done then none else adv.2, tickTimer := some Config.clockPeriod }
  let s := if done then raise .slewDone noValue noValue s else s
  let s := match minutePassed c.virtualTime adv.1 with
    | none => s
    | some m => deliverCue (deviceEvent (.minute m)) s
  recomputeSky s

/-- DAY_CLOCK_TICK (R96); nothing while the timer is stopped. -/
def execDayClockTick (s : State) : Host.Outcome State Fault Refusal :=
  .next (match s.clock.tickTimer with
    | none => s
    | some _ => clockTick s)

/-! ## Setting the time and the rate -/

/-- R99: CLOCK SET with JUMP. -/
def clockJump (second day : Nat) (s : State) : Status × State :=
  if 86399 < second then (.badValue, s)
  else
    let minute := s.clock.minute
    let s := s.updClock fun c => { c with virtualTime := second * 1000, day := day, slew := none }
    let s := recomputeSky s
    let s := deliverCue (deviceEvent .clockJumped) s
    (.ok, raise .clockJumped noValue minute s)

/-- The difference of R100, taken into −43 200 000 to +43 199 999. -/
def slewDifference (target present : Nat) : Int :=
  ((target : Int) - present + 43200000) % 86400000 - 43200000

/-- R100: CLOCK SET with SLEW. -/
def clockSlew (second : Nat) (s : State) : Status × State :=
  if 86399 < second ∨ s.clock.rate = 0 then (.badValue, s)
  else
    let d := slewDifference (second * 1000) s.clock.virtualTime
    (.ok, s.updClock fun c => { c with slew := if d = 0 then none else some d })

/-- R101: the rate set. -/
def setClockRate (q : Nat) (s : State) : State := s.updClock fun c => { c with rate := q }

/-! ## The ambient level -/

/-- R106: A moved by a curve level. -/
def smoothAmbient (a level : Nat) : Nat := (7 * a + level + 4) / 8

/-- R104: the ratio of a sample. -/
def sampleRatio (sensor reference : Nat) : Nat := min (sensor * 1000 / reference) 8000

/-- R104 to R106: an accepted sample. -/
def acceptSample (sensor reference : Nat) (s : State) : State :=
  let q := sampleRatio sensor reference
  let level := ambientLevel s.tables.ambient q
  let timeout := s.tables.clock.ambientTimeout * 1000
  let s := s.countBlock fun c => { c with ambientAccepted := c.ambientAccepted + 1 }
  s.updClock fun c =>
    { c with
      lastRatio := q, lastCurve := level, ambient := smoothAmbient c.ambient level, ambientStale := false, ambientTimer := some timeout }

/-- R104: a LIGHTCOUNT of the ambient node at the ambient stage. -/
def takeLightcount (payload : List Byte) (s : State) : State :=
  if s.mode = .starting ∨ payload.length ≠ 4 ∨ n2 payload 2 = 0 then
    s.countBlock fun c => { c with ambientRejected := c.ambientRejected + 1 }
  else acceptSample (n2 payload 0) (n2 payload 2) s

/-- R107: the ambient timer expires. -/
def expireAmbient (s : State) : State :=
  let node := s.tables.clock.ambientNode
  raise .ambientStale node noValue (s.updClock fun c => { c with ambientStale := true, ambientTimer := none })

/-- AMBIENT_TIMER_EXPIRY (R107); nothing where the timer does not run. -/
def execAmbientTimerExpiry (s : State) : Host.Outcome State Fault Refusal :=
  .next (match s.clock.ambientTimer with
    | none => s
    | some _ => expireAmbient s)

end Sys2Proof.Machine
end

