-- ==== Sys2Proof/Machine/Lamps.lean ====
section
/-!
DEFINITION. The Lamp Engine (Chapter 6): the refresh (R111–R113), base levels (R114–R120), overrides (R121), the LEVEL frames it composes
and offers (R122–R125), and the adjustment of host LEVEL frames (R126, R127). Commands: LAMP_REFRESH, STAGGER_TIMER_EXPIRY,
OVERRIDE_TIMER_EXPIRY, and the timers of the Rotor Unit, ROTOR_UPDATE and ROTOR_REFRESH_EXPIRY.
-/

namespace Sys2Proof.Machine

/-- A channel the Lamp Engine computes and sends: mapped, and ENGINE or MERGE (R111). -/
def PatchEntry.engineOwned (e : PatchEntry) : Bool :=
  e.mapped && match e.ownership with
    | .show => false
    | .engine => true
    | .merge => true

/-- Every channel's dynamic state mapped by its index. -/
def State.mapChannels (s : State) (f : ChannelId → ChannelState → ChannelState) : State :=
  { s with lamps := { s.lamps with channels := tabulate fun c => f c s.lamps.channels[c] } }

/-! ## STREET judgement (R115) -/

/-- The switching condition of a STREET channel at a sky level. -/
def streetCondition (onLevel offLevel sky : Nat) (lit : Bool) : Bool := if lit then offLevel ≤ sky else sky ≤ onLevel

/-- Table 6-5. -/
def ChannelState.judgeStreet (onLevel offLevel stagger sky : Nat) (x : ChannelState) : ChannelState :=
  match streetCondition onLevel offLevel sky x.lit, x.staggerTimer with
  | true, none => if stagger = 0 then { x with lit := !x.lit } else { x with staggerTimer := some stagger }
  | true, some _ => x
  | false, some _ => { x with staggerTimer := none }
  | false, none => x

/-- Step 1 of R111 for one channel. -/
def judgeChannel (s : State) (c : ChannelId) (x : ChannelState) : ChannelState :=
  let e := s.patchEntry c
  match e.engineOwned, e.kind with
  | true, .street onLevel offLevel stagger => x.judgeStreet onLevel offLevel stagger s.clock.sky
  | _, _ => x

/-! ## Base levels (Table 6-4) -/

/-- R114: the wash between low and high. -/
def washLevel (low high sky : Nat) : Nat := ((low : Int) + Int.tdiv (((high : Int) - low) * sky) 1000).toNat

/-- R116: a virtual minute within the on span, which may run across midnight. -/
def withinSpan (first last m : Nat) : Bool := if first < last then first ≤ m && m < last else first ≤ m || m < last

/-- R118: the half of the flash count a phase is lit in. -/
def FlashPhase.litAt (p : FlashPhase) (count : Nat) : Bool :=
  match p with
  | .a => count ≤ 12
  | .b => 13 ≤ count

/-- R118: a CROSSING channel's block is a crossing block in WARNING or ACTIVE. -/
def crossingWarns (s : State) (b : BlockId) : Bool :=
  (s.blockEntry b).crossing && ((s.block b).crossing = .warning || (s.block b).crossing = .active)

/-- R120: a CHASE channel is lit. -/
def chaseLit (x : RotorRecord) (phaseFrom phaseTo : Nat) : Bool :=
  (x.condition = .running || x.condition = .stopping)
    && match x.phase with
      | none => false
      | some p => withinSpan phaseFrom phaseTo p

/-- The base level of a channel by its kind (R114 to R120). -/
def baseLevel (s : State) (e : PatchEntry) (x : ChannelState) : Nat :=
  let whenLit (b : Bool) : Nat := if b then e.onValue else 0
  match e.kind with
  | .skywash low high => washLevel low high s.clock.sky
  | .street _ _ _ => whenLit x.lit
  | .window onMinute offMinute => whenLit (withinSpan onMinute offMinute s.clock.minute)
  | .signal block shows => whenLit (aspect s block = shows)
  | .crossing block phase => whenLit (crossingWarns s block && phase.litAt s.lamps.flashCount)
  | .headlight train onLevel => whenLit ((s.train train).condition.isLocated && decide (s.clock.sky ≤ onLevel))
  | .chase rotor phaseFrom phaseTo => whenLit (chaseLit (s.rotor rotor) phaseFrom phaseTo)
  | .cue => 0

/-! ## Target, output and emitted level -/

/-- R112 step 3: the ambient gain. -/
def ambientGain (ambient weight level : Nat) : Nat :=
  if 0 < weight then level * (1000 + ambient * weight / 256) / 1000 else level

/-- R112: the target of a channel. -/
def targetLevel (s : State) (e : PatchEntry) (x : ChannelState) : Nat :=
  min (min (ambientGain s.clock.ambient e.ambientWeight (x.override.getD (baseLevel s e x))) 255) e.ceiling

/-- The kinds whose output follows the target at once (R113). -/
def LampKind.isCrisp : LampKind → Bool
  | .crossing _ _ => true
  | .chase _ _ _ => true
  | _ => false

/-- R113: an output moved toward a target by at most a fade step. -/
def fadeToward (step output target : Nat) : Nat :=
  if output < target then min (output + step) target else max (output - step) target

/-- R113: the output after a refresh. -/
def nextOutput (e : PatchEntry) (x : ChannelState) (target : Nat) : Nat :=
  if e.kind.isCrisp || x.override.isSome || e.fadeStep = 0 then target else fadeToward e.fadeStep x.output target

/-- R113: the emitted level by ownership. -/
def emittedLevel (e : PatchEntry) (x : ChannelState) (output : Nat) : Nat :=
  match e.ownership with
  | .merge => min (max output x.showValue) e.ceiling
  | _ => output

/-- Step 2 of R111 for one channel. -/
def computeChannel (s : State) (c : ChannelId) (x : ChannelState) : ChannelState :=
  let e := s.patchEntry c
  if e.engineOwned then
    let target := targetLevel s e x
    let output := nextOutput e x target
    { x with target, output, emitted := emittedLevel e x output }
  else x

/-! ## LEVEL frames -/

/-- R122: a channel the part owns whose offered level is absent or differs from its emitted level. -/
def channelChanged (e : PatchEntry) (x : ChannelState) : Bool := e.engineOwned && decide (x.offered ≠ some x.emitted)

/-- R122: a LEVEL frame for the node waits in the Engine Queue. -/
def nodeBusy (q : List (EngineKey × Frame)) (node : Nat) : Bool :=
  q.any fun e => match e.1 with
    | .level n _ => n = node
    | _ => false

/-- R123: the restatement count advanced, and the restatement where it is due. -/
def restate (s : State) : State :=
  if s.lamps.restatementCount + 1 < 50 then
    { s with lamps := { s.lamps with restatementCount := s.lamps.restatementCount + 1 } }
  else
    let s := s.mapChannels fun c x => if (s.patchEntry c).engineOwned then { x with offered := none } else x
    { s with lamps := { s.lamps with restatementCount := 0 } }

/-- The channel mapped to a node and node channel. -/
def channelAt (ts : Tables) (node nodeChannel : Nat) : Option ChannelId :=
  (List.finRange 192).find? fun c => ts.patch[c].mapped && ts.patch[c].node = node && ts.patch[c].nodeChannel = nodeChannel

/-- The channel of the part's own mapped to a node and node channel. -/
def ownedAt (ts : Tables) (node nodeChannel : Nat) : Option ChannelId :=
  (List.finRange 192).find? fun c => ts.patch[c].engineOwned && ts.patch[c].node = node && ts.patch[c].nodeChannel = nodeChannel

/-- A run of a node's channels: the first node channel and the channels in order (R124). -/
structure LevelRun where
  node : Nat
  first : Nat
  channels : List ChannelId
  deriving DecidableEq, Repr

/-- The channels from a node channel on, as far as the part owns them; the first argument bounds their number. -/
def ownedSpan (ts : Tables) (node : Nat) : Nat → Nat → List ChannelId
  | 0, _ => []
  | n + 1, k =>
    match ownedAt ts node k with
    | none => []
    | some c => c :: ownedSpan ts node n (k + 1)

/-- A list cut back so that it ends at its last element that satisfies a test (R124 step 3). -/
def cutBack (test : ChannelId → Bool) (cs : List ChannelId) : List ChannelId := (cs.reverse.dropWhile fun c => !test c).reverse

/-- The runs of a node from node channel `k` on, given its changed channels (R124); the first argument bounds the scan. -/
def runsFrom (ts : Tables) (node : Nat) (changed : List ChannelId) : Nat → Nat → List LevelRun
  | 0, _ => []
  | fuel + 1, k =>
    if changed.any fun c => ts.patch[c].nodeChannel = k then
      let cs := cutBack (fun c => changed.contains c) (ownedSpan ts node Config.maxLevelRun k)
      { node, first := k, channels := cs } :: runsFrom ts node changed fuel (k + max cs.length 1)
    else runsFrom ts node changed fuel (k + 1)

/-- R124 and R125: the runs of a refresh, in ascending order of node and of first channel. -/
def composeRuns (s : State) : List LevelRun :=
  let changed := (List.finRange 192).filter fun c => channelChanged (s.patchEntry c) (s.channel c)
  ((List.range 96).map (· + 1)).flatMap fun node =>
    let here := changed.filter fun c => (s.patchEntry c).node = node
    if here.isEmpty || nodeBusy s.field.engine node then [] else runsFrom s.tables node here 64 0

/-- The channels whose levels a frame carries, with their offered levels set (R125). -/
def markOffered (cs : List ChannelId) (s : State) : State :=
  cs.foldl (fun s c => s.updChannel c fun x => { x with offered := some x.emitted }) s

/-- R125: one run offered to the Engine Queue. -/
def offerRun (r : LevelRun) (s : State) : State :=
  if engineTakes s.field.engine (.level r.node r.first) then
    markOffered r.channels
      (offerEngine (.level r.node r.first) (levelFrame r.node r.first (r.channels.map fun c => (s.channel c).emitted)) s)
  else s.countBlock fun c => { c with runsDeferred := c.runsDeferred + 1 }

/-- R125: every run of the refresh offered, the node's state read before the first offer. -/
def sendLevels (s : State) : State := (composeRuns s).foldl (fun s r => offerRun r s) s

/-! ## The refresh -/

/-- Steps 1 and 2 of R111. -/
def computeChannels (s : State) : State :=
  let s := s.mapChannels (judgeChannel s)
  s.mapChannels (computeChannel s)

/-- Step 5 of R111. -/
def advanceFlash (s : State) : State := { s with lamps := { s.lamps with flashCount := (s.lamps.flashCount + 1) % 25 } }

/-- R111: one refresh. -/
def refreshLamps (s : State) : State := advanceFlash (sendLevels (restate (computeChannels s)))

/-- LAMP_REFRESH (R111): nothing while the refresh timer is stopped. -/
def execLampRefresh (s : State) : Host.Outcome State Fault Refusal :=
  .next (match s.lamps.refreshTimer with
    | none => s
    | some _ => refreshLamps { s with lamps := { s.lamps with refreshTimer := some Config.lampPeriod } })

/-- R115: the stagger timer's expiry on the channel, judged with the present sky level. -/
def ChannelState.expireStagger (kind : LampKind) (sky : Nat) (x : ChannelState) : ChannelState :=
  match kind with
  | .street onLevel offLevel _ =>
    { x with staggerTimer := none, lit := if streetCondition onLevel offLevel sky x.lit then !x.lit else x.lit }
  | _ => { x with staggerTimer := none }

/-- STAGGER_TIMER_EXPIRY (R115): nothing while the timer is stopped. -/
def execStaggerTimerExpiry (channel : ChannelId) (s : State) : Host.Outcome State Fault Refusal :=
  let kind := (s.patchEntry channel).kind
  let sky := s.clock.sky
  .next (match (s.channel channel).staggerTimer with
    | none => s
    | some _ => s.updChannel channel (ChannelState.expireStagger kind sky))

/-! ## Overrides (R121) -/

/-- R121: a cue's override, for a channel whose index is in range. -/
def overrideChannel (c : ChannelId) (level duration : Nat) (s : State) : Status × State :=
  if (s.patchEntry c).engineOwned then
    (.ok, s.updChannel c fun x => { x with override := some level, overrideTimer := some duration })
  else (.notAvailable, s)

/-- OVERRIDE_TIMER_EXPIRY (R121): nothing while the timer is stopped. -/
def execOverrideTimerExpiry (channel : ChannelId) (s : State) : Host.Outcome State Fault Refusal :=
  .next (match (s.channel channel).overrideTimer with
    | none => s
    | some _ => s.updChannel channel fun x => { x with override := none, overrideTimer := none })

/-! ## Host LEVEL frames -/

/-- Table 6-6 for one level: the level handed on, and the show value stored. -/
def adjustLevel (node nodeChannel : Nat) (level : Byte) (s : State) : Byte × State :=
  match if nodeChannel ≤ 63 then channelAt s.tables node nodeChannel else none with
  | none => (level, s)
  | some c =>
    let e := s.patchEntry c
    let x := s.channel c
    match e.ownership with
    | .show => (byte (min level.toNat e.ceiling), s)
    | .engine => (byte x.emitted, s)
    | .merge => (byte (min (max x.output level.toNat) e.ceiling), s.updChannel c fun x => { x with showValue := level.toNat })

/-- R126: the levels of a frame adjusted one by one from a node channel on. -/
def adjustLevels (node : Nat) : Nat → List Byte → State → List Byte × State
  | _, [], s => ([], s)
  | k, l :: ls, s =>
    let one := adjustLevel node k l s
    let rest := adjustLevels node (k + 1) ls one.2
    (one.1 :: rest.1, rest.2)

/-- R126 and R127: the payload of a host LEVEL frame to one node, as handed on. -/
def adjustPayload (node : Nat) (payload : List Byte) (s : State) : List Byte × State :=
  match payload with
  | [] => ([], s)
  | f :: levels =>
    if 63 < f.toNat then (payload, s)
    else
      let r := adjustLevels node f.toNat levels s
      (f :: r.1, r.2)

/-- R127: whether any Patch Table channel is mapped. -/
def anyMapped (ts : Tables) : Bool := (List.finRange 192).any fun c => ts.patch[c].mapped

/-! ## The Rotor Unit's timers -/

/-- ROTOR_UPDATE (R136): nothing while the update timer is stopped. DESIGN CHOICE: the rotors are updated in ascending index (log entry 37). -/
def execRotorUpdate (s : State) : Host.Outcome State Fault Refusal :=
  .next (match s.rotors.updateTimer with
    | none => s
    | some _ => forAll updateRotor { s with rotors := { s.rotors with updateTimer := some Config.rotorPeriod } })

/-- ROTOR_REFRESH_EXPIRY (R137): nothing while the timer is stopped. -/
def execRotorRefreshExpiry (rotor : RotorId) (s : State) : Host.Outcome State Fault Refusal :=
  .next (match (s.rotor rotor).refreshTimer with
    | none => s
    | some _ => offerRotor rotor s)

end Sys2Proof.Machine
end

