-- ==== Sys2Proof/Machine/Cues.lean ====
section
/-!
DEFINITION. The Cue Engine (Chapter 8): judging an event at every cue (R144–R147), firing (R149–R151), the actions (R152), enabling and
disabling (R153). Commands: CUE_EVENT_JUDGEMENT, WINDOW_TIMER_EXPIRY, HOLD_OFF_TIMER_EXPIRY.
-/

namespace Sys2Proof.Machine

/-- Codes of R151. -/
def Origin.code : Origin → Nat
  | .button => 0 | .other => 1

/-! ## Counting (R145, R146) -/

/-- Whether Table 8-5 gives an A event a change of progress. -/
def changesOnA (m : CueMode) (x : CueProgress) : Bool :=
  match x.stage, m with
  | .waitA, _ => true
  | .waitB, .bothWithin => x.openHalf = some .b
  | _, _ => false

/-- R145: the half an event is taken as, if it matches at all. -/
def halfOf (e : CueEntry) (x : CueProgress) (t : CueTrigger) : Option OpenHalf :=
  match decide (e.triggerA = t), decide (e.triggerB = some t) with
  | true, false => some .a
  | false, true => some .b
  | true, true => if changesOnA e.mode x then some .a else some .b
  | false, false => none

/-- An occurrence counted; whether the count is then at n. -/
def CueProgress.countUp (n : Nat) (x : CueProgress) : CueProgress × Bool := ({ x with count := x.count + 1 }, decide (n ≤ x.count + 1))

/-- A pair opened with a half (R147). -/
def CueProgress.openPair (window : Nat) (h : OpenHalf) (x : CueProgress) : CueProgress :=
  { x with stage := .waitB, openHalf := some h, windowTimer := some window }

/-- A pair discarded, or closed before it is counted (R147). -/
def CueProgress.closePair (x : CueProgress) : CueProgress := { x with stage := .waitA, openHalf := none, windowTimer := none }

/-- Table 8-5: an event taken as a half; whether the combination is then complete. -/
def CueProgress.take (e : CueEntry) (h : OpenHalf) (x : CueProgress) : CueProgress × Bool :=
  match e.mode, x.stage, h with
  | .countA, .waitA, .a => x.countUp e.count
  | .either, .waitA, _ => x.countUp e.count
  | .aThenB, .waitA, .a => ({ x with stage := .waitB, count := 0 }, false)
  | .aThenB, .waitB, .b => x.countUp e.count
  | .aCountThenB, .waitA, .a =>
    let r := x.countUp e.count
    (if r.2 then { r.1 with stage := .waitB } else r.1, false)
  | .aCountThenB, .waitB, .b => (x, true)
  | .bothWithin, .waitA, h => (x.openPair e.window h, false)
  | .bothWithin, .waitB, h =>
    if x.openHalf = some h ∨ x.openHalf = none then (x, false) else x.closePair.countUp e.count
  | _, _, _ => (x, false)

/-! ## Enabling and disabling (R153) -/

/-- ENABLE for a cue whose index is in range. -/
def enableCue (k : CueId) (s : State) : Status × State :=
  if (s.cueEntry k).enabled then
    (.ok, s.updCue k fun x => if x.stage = .disabled then { x with stage := .waitA, count := 0 } else x)
  else (.notAvailable, s)

/-- DISABLE on a progress record. -/
def CueProgress.disable (x : CueProgress) : CueProgress :=
  if x.stage = .disabled then x
  else { x with stage := .disabled, count := 0, openHalf := none, windowTimer := none, holdOffTimer := none }

/-- DISABLE for a cue whose index is in range. -/
def disableCue (k : CueId) (s : State) : Status × State := (.ok, s.updCue k CueProgress.disable)

/-! ## Firing -/

/-- The source of a dispatch by the firing's origin (R151). -/
def Origin.source : Origin → RequestSource
  | .button => .buttonCue
  | .other => .cue

/-- R152, Table 8-6: one action of a cue handed to its owner. -/
def cueAction (k : CueId) (o : Origin) (a : CueAction) (s : State) : Status × State :=
  match a with
  | .dispatch t r w => dispatchRequest t r w o.source s
  | .cancelRequest t => cancelRequest t s
  | .override c l d => overrideChannel c l d s
  | .rotorStart r q => startRotor r q s
  | .rotorStop r => stopRotor r s
  | .setRate q => (.ok, setClockRate q s)
  | .modeHold => if s.mode = .run then (.ok, beginHolding s) else (.wrongMode, s)
  | .enableCue j => enableCue j s
  | .disableCue j => disableCue j s
  | .report d => (.ok, raise .cueReport k.val d s)

/-- Step 1 of R149: the actions from a position on, each on the state the one before left. -/
def cueActions (k : CueId) (o : Origin) : Nat → List CueAction → State → State
  | _, [], s => s
  | pos, a :: rest, s =>
    let r := cueAction k o a s
    let s := settle r.2
    let s := if r.1.isSuccess then s else raise .cueActionRefused k.val (pairDetail pos r.1.code) s
    cueActions k o (pos + 1) rest s

/-- Step 2 of R149: fire count and stamp. -/
def CueProgress.stampFiring (m : StampMode) (now : Nat × Nat) (x : CueProgress) : CueProgress :=
  { x with
    fireCount := min (x.fireCount + 1) 65535
    stamp := match m with
      | .first => x.stamp.orElse fun _ => some now
      | .last => some now }

/-- Step 3 of R149: the stage after a firing. -/
def CueProgress.afterFiring (e : CueEntry) (x : CueProgress) : CueProgress :=
  { x with
    stage := if e.oneShot then .disabled else if 0 < e.holdOff then .holdOff else .waitA
    count := 0, openHalf := none, windowTimer := none
    holdOffTimer := if e.oneShot then none else if 0 < e.holdOff then some e.holdOff else none }

/-- Whether an action enables or disables a cue, and which. -/
def CueAction.armsCue : CueAction → Option (CueId × Bool)
  | .enableCue k => some (k, true)
  | .disableCue k => some (k, false)
  | _ => none

/-- Whether the last of a firing's ENABLE_CUE and DISABLE_CUE actions that name the cue is a DISABLE_CUE (R149 step 3). -/
def endsDisabled (k : CueId) (as : List CueAction) : Bool :=
  ((as.filterMap CueAction.armsCue).filter fun p => p.1 = k).getLast? = some (k, false)

/-- The other enabled cues with a CUE_FIRED selector for a cue (R150). -/
def watchedByOther (s : State) (k : CueId) : Bool :=
  (List.finRange 64).any fun j =>
    j ≠ k && (s.cueEntry j).enabled
      && ((s.cueEntry j).triggerA = .cueFired k || (s.cueEntry j).triggerB = some (.cueFired k))

/-- Step 4 of R149, with R150. -/
def announceFiring (k : CueId) (depth : Nat) (o : Origin) (s : State) : State :=
  let s := raise .cueFired k.val (pairDetail depth o.code) s
  if depth < Config.maxChainDepth then deliverCue { trigger := .cueFired k, depth := depth, origin := o } s
  else if watchedByOther s k then raise .cueChainLimit k.val Config.maxChainDepth s
  else s

/-- R149: a cue fires. -/
def fireCue (k : CueId) (depth : Nat) (o : Origin) (s : State) : State :=
  let e := s.cueEntry k
  let s := cueActions k o 0 e.actions s
  let now := (s.clock.day, s.clock.second)
  let s := s.updCue k (CueProgress.stampFiring e.stampMode now)
  let s := if endsDisabled k e.actions then s else s.updCue k (CueProgress.afterFiring e)
  announceFiring k depth o s

/-! ## Judging -/

/-- R150: the depth of a firing that an event completes. -/
def CueEvent.firingDepth (v : CueEvent) : Nat :=
  match v.trigger with
  | .cueFired _ => v.depth + 1
  | _ => 1

/-- R151: the origin of a firing that an event completes. -/
def CueEvent.firingOrigin (v : CueEvent) : Origin :=
  match v.trigger with
  | .button _ => .button
  | .cueFired _ => v.origin
  | _ => .other

/-- The event is the firing of this cue, which is not delivered to it (R150). -/
def CueEvent.isOwn (v : CueEvent) (k : CueId) : Bool := v.trigger = .cueFired k

/-- R145, R146: an event judged at one cue. -/
def judgeAt (v : CueEvent) (k : CueId) (s : State) : State :=
  let e := s.cueEntry k
  let x := s.cue k
  if e.enabled && (x.stage = .waitA || x.stage = .waitB) && !v.isOwn k then
    match halfOf e x v.trigger with
    | none => s
    | some h =>
      let r := x.take e h
      let s := s.updCue k fun _ => r.1
      if r.2 then fireCue k v.firingDepth v.firingOrigin s else s
  else s

/-- R144: one event judged at every cue, in ascending order. -/
def judgeEvent (v : CueEvent) (s : State) : State := forAll (judgeAt v) s

/-- CUE_EVENT_JUDGEMENT (R144): the oldest pending event; nothing where none waits. -/
def execCueEventJudgement (s : State) : Host.Outcome State Fault Refusal :=
  .next (match s.cues.pendingEvents with
    | [] => s
    | v :: rest => judgeEvent v { s with cues := { s.cues with pendingEvents := rest } })

/-- WINDOW_TIMER_EXPIRY (R147): nothing while the timer is stopped. -/
def execWindowTimerExpiry (cue : CueId) (s : State) : Host.Outcome State Fault Refusal :=
  .next (match (s.cue cue).windowTimer with
    | none => s
    | some _ => s.updCue cue CueProgress.closePair)

/-- R148: the hold-off timer's expiry on the progress record. -/
def CueProgress.rearm (x : CueProgress) : CueProgress := { x with stage := .waitA, count := 0, holdOffTimer := none }

/-- HOLD_OFF_TIMER_EXPIRY (R148): nothing while the timer is stopped. -/
def execHoldOffTimerExpiry (cue : CueId) (s : State) : Host.Outcome State Fault Refusal :=
  .next (match (s.cue cue).holdOffTimer with
    | none => s
    | some _ => s.updCue cue CueProgress.rearm)

/-! ## Requests on cues -/

/-- R154, CUE FIRE for a cue whose index is in range. -/
def fireByRequest (k : CueId) (s : State) : Status × State :=
  if (s.cueEntry k).enabled then (.ok, fireCue k 1 .other s) else (.notAvailable, s)

/-- R155, CUE RESET STAMP for a cue whose index is in range. -/
def resetStamp (k : CueId) (s : State) : Status × State := (.ok, s.updCue k fun x => { x with stamp := none })

end Sys2Proof.Machine
end

