-- ==== Sys2Proof/Machine/TableAccess.lean ====
section
/-!
DEFINITION. READ TABLE and WRITE TABLE (R170): the general checks, each table's own checks and the effects of a write (R1, R18, R21, R22,
R36, R38, R51, R67, R95, R102, R105, R109, R130, R142, R173).
-/

namespace Sys2Proof.Machine

/-! ## The tables (Table 10-3) -/

inductive TableId where
  | block | turnout | route | train | sensor | loop | policy | patch | sky | ambient | clock | rotor | cue | mask
  deriving DecidableEq, Repr

/-- Table codes 0 to 13, in the order of Table 10-3 (R180). -/
def TableId.ofCode (n : Nat) : Option TableId :=
  match n with
  | 0 => some .block
  | 1 => some .turnout
  | 2 => some .route
  | 3 => some .train
  | 4 => some .sensor
  | 5 => some .loop
  | 6 => some .policy
  | 7 => some .patch
  | 8 => some .sky
  | 9 => some .ambient
  | 10 => some .clock
  | 11 => some .rotor
  | 12 => some .cue
  | 13 => some .mask
  | _ => none

/-- Entries of a table (Table 10-3). -/
def TableId.entries : TableId → Nat
  | .block => 48 | .turnout => 16 | .route => 32 | .train => 8 | .sensor => 128 | .loop => 1 | .policy => 96
  | .patch => 192 | .sky => 1 | .ambient => 1 | .clock => 1 | .rotor => 4 | .cue => 64 | .mask => 1

/-- The safety class (Table 10-3). -/
def TableId.isSafety : TableId → Bool
  | .block => true | .turnout => true | .route => true | .train => true | .sensor => true | .loop => true
  | .policy => false | .patch => false | .sky => false | .ambient => false | .clock => false | .rotor => false | .cue => false
  | .mask => false

/-- Bytes of one entry layout; those of a curve follow from its point count, the first byte (R179, R183). -/
def TableId.entrySize (t : TableId) (bs : List Byte) : Nat :=
  match t with
  | .block => 6 | .turnout => 6 | .route => 25 | .train => 15 | .sensor => 7 | .loop => 3 | .policy => 1 | .patch => 14
  | .sky => 1 + skyBytes (n1 bs 0) | .ambient => 1 + 4 * n1 bs 0 | .clock => 9 | .rotor => 9 | .cue => 34 | .mask => 4

/-- Check 5 of R170: whole entry layouts, at least one, and none past the table's end. -/
def TableId.lengthFits (t : TableId) (start : Nat) (bs : List Byte) : Bool :=
  let size := t.entrySize bs
  !bs.isEmpty && bs.length % size = 0 && decide (start + bs.length / size ≤ t.entries)

/-! ## Entries of one request -/

/-- Entries put at consecutive indexes from a start; an absent one leaves its index as it was. -/
def putFrom {α : Type} {n : Nat} (v : Vector α n) (start : Nat) (es : List (Option α)) : Vector α n :=
  tabulate fun i => if start ≤ i.val then ((es[i.val - start]?).join).getD v[i] else v[i]

/-- The entry a request's bytes give an index, an out-of-range one too: `decode` reads it, or, where a field is outside its range,
`asGiven` reads the fields that the checks between entries compare. -/
def given {α : Type} (decode : List Byte → Option α) (asGiven : List Byte → α) (p : List Byte) : α := (decode p).getD (asGiven p)

/-- A table as it would stand with all the entries of a request applied (R21, R67, R109, R130), whether or not a later check refuses them. -/
def proposed {α : Type} {n : Nat} (v : Vector α n) (start : Nat) (decode : List Byte → Option α) (asGiven : List Byte → α)
    (ps : List (List Byte)) : Vector α n := putFrom v start (ps.map fun p => some (given decode asGiven p))

/-- The indexes a request writes. -/
def writtenIndexes (n start count : Nat) : List (Fin n) := (List.finRange n).filter fun i => start ≤ i.val && i.val < start + count

/-- Each entry checked in turn (R21, R67, R109, R130, R142): an entry out of range is BAD_VALUE; else its own check decides. The first failing
entry gives the status (log entry 15). -/
def checkInTurn {α : Type} {n : Nat} (start : Nat) (es : List (Option α)) (check : Fin n → α → Option Status) : Option Status :=
  (writtenIndexes n start es.length).findSome? fun i =>
    match (es[i.val - start]?).join with
    | none => some .badValue
    | some e => check i e

/-- A later, distinct or earlier index whose element is related to this one. -/
def anyOther {α : Type} {n : Nat} (v : Vector α n) (i : Fin n) (related : α → Bool) : Bool :=
  (List.finRange n).any fun j => j ≠ i && related v[j]

/-- The outcome of a checked write. -/
def concludeWrite (failure : Option Status) (apply : State → State) (s : State) : Status × State :=
  match failure with
  | some st => (st, s)
  | none => (.ok, apply s)

def State.setTables (s : State) (f : Tables → Tables) : State := { s with tables := f s.tables }

/-! ## Block Table (R36) -/

/-- The effects of a Block Table write on one written block. -/
def resetWrittenBlock (b : BlockId) (s : State) : State :=
  let s := s.updBlock b fun x => { x with intruded := false, crossing := .idle, warnTimer := none }
  if reportedState s b = .free then markService s else s

def writeBlocks (start : Nat) (es : List (Option BlockEntry)) (s : State) : Status × State :=
  let is : List BlockId := writtenIndexes 48 start es.length
  concludeWrite
    (if es.any Option.isNone then some .badValue else if is.any fun b => (s.block b).holding.isSome then some .inUse else none)
    (fun s => is.foldl (fun s b => resetWrittenBlock b s) (s.setTables fun ts => { ts with blocks := putFrom ts.blocks start es })) s

/-! ## Turnout Table (R38) -/

/-- Two enabled entries name the same node and channel. -/
def TurnoutEntry.clashes (a b : TurnoutEntry) : Bool := a.enabled && b.enabled && a.node = b.node && a.channel = b.channel

/-- The effects of a Turnout Table write on one written turnout (R38, R39). -/
def resetWrittenTurnout (u : TurnoutId) (s : State) : State :=
  let held := s.filter.turnouts[u]
  s.updTurnout u fun _ => { TurnoutState.initial with indication := held }

def writeTurnouts (start : Nat) (es : List (Option TurnoutEntry)) (s : State) : Status × State :=
  let is : List TurnoutId := writtenIndexes 16 start es.length
  let after := putFrom s.tables.turnouts start es
  concludeWrite
    (if es.any Option.isNone then some .badValue
     else if is.any fun u => anyOther after u fun e => e.clashes after[u] then some .duplicate
     else if is.any fun u => (s.turnout u).lock.isSome || (s.turnout u).condition = .moving then some .inUse
     else none)
    (fun s => is.foldl (fun s u => resetWrittenTurnout u s) (s.setTables fun ts => { ts with turnouts := after })) s

/-! ## Route Table (R51) -/

/-- The faults of R51 beyond ranges. -/
def routeIsSound (ts : Tables) (e : RouteEntry) : Bool :=
  decide e.blocks.Nodup && !e.blocks.contains e.start && decide (e.turnouts.map Prod.fst).Nodup
    && e.turnouts.all fun p => e.blocks.contains ts.turnouts[p.1].block

/-- A pending request for a written route removed (R51). -/
def refuseRewritten (start count : Nat) (q : RouteRequest) (s : State) : State :=
  if start ≤ q.route.val ∧ q.route.val < start + count then removeRequest q.train .routeRewritten s else s

/-- R51. The Route Queue is gone through from its oldest request to its newest (log entry 33). -/
def writeRoutes (start : Nat) (es : List (Option RouteEntry)) (s : State) : Status × State :=
  let good (e : Option RouteEntry) : Bool := match e with
    | none => false
    | some e => routeIsSound s.tables e
  concludeWrite (if es.all good then none else some .badValue)
    (fun s =>
      let s := s.setTables fun ts => { ts with routes := putFrom ts.routes start es }
      s.interlock.queue.foldl (fun s q => refuseRewritten start es.length q s) s) s

/-! ## Train Table (R67) -/

/-- Two enabled entries name the same drive node and channel, or the same home block. -/
def TrainEntry.clashes (a b : TrainEntry) : Bool :=
  a.enabled && b.enabled && ((a.node = b.node && a.channel = b.channel) || (a.home.isSome && a.home = b.home))

/-- The fields of a Train Table entry that DUPLICATE compares, read without their ranges. A home block out of range names no block. -/
def TrainEntry.asGiven (bs : List Byte) : TrainEntry :=
  { defaultTrain with
    enabled := bitAt bs 0 0, node := n1 bs 1, channel := n1 bs 2, home := if bitAt bs 0 3 then finOf 48 (n1 bs 14) else none }

/-- The record of a written train (R67): as after power-on, its refresh timer by its entry. -/
def TrainRecord.written (e : TrainEntry) : TrainRecord :=
  { TrainRecord.initial e with refreshTimer := if e.enabled then some Config.refreshPeriod else none }

/-- A written train's record set, with TRAIN_LOST where it becomes LOST (R67, R84). -/
def resetWrittenTrain (t : TrainId) (s : State) : State :=
  let wasLost := (s.train t).condition = .lost
  let e := s.trainEntry t
  let s := s.updTrain t fun _ => TrainRecord.written e
  if e.enabled && !wasLost then raise .trainLost t.val LostDetail.written.code s else s

def writeTrains (start : Nat) (ps : List (List Byte)) (s : State) : Status × State :=
  let is : List TrainId := writtenIndexes 8 start ps.length
  let after := proposed s.tables.trains start TrainEntry.decode TrainEntry.asGiven ps
  concludeWrite
    (checkInTurn start (ps.map TrainEntry.decode) fun (t : TrainId) e =>
      if anyOther after t fun o => o.clashes e then some .duplicate
      else if (s.train t).condition.isLocated || (s.train t).condition = .halted then some .inUse
      else none)
    (fun s =>
      let s := s.setTables fun ts => { ts with trains := after }
      let s := is.foldl (fun s t => releaseBlocks t ((s.path t).occupied ++ (s.path t).reserved) s) s
      let s := is.foldl (fun s t => resetWrittenTrain t s) s
      is.foldl (fun s t => autoLocate t s) s) s

/-! ## Sensor Map Table (R21, R22) -/

/-- Check 5 of R21 for one function and subject. DESIGN CHOICE: R21 does not say what the present function of a never-written entry is;
`checkSensor` asks this of its default, OCCUPANCY of block 0 (log entry 7). -/
def functionInUse (s : State) (f : SensorFunction) : Bool :=
  match f with
  | .occupancy b => (s.block b).holding.isSome
  | .turnoutNormal u => (s.turnout u).lock.isSome
  | .turnoutReverse u => (s.turnout u).lock.isSome
  | .index r => (s.rotor r).condition.isTurning
  | .button => false
  | .spare => false

/-- Check 2 of R21 for an entry: its block would have more than two enabled OCCUPANCY entries. -/
def overDetected (after : Vector SensorEntry 128) (e : SensorEntry) : Bool :=
  match e.enabled, e.function with
  | true, .occupancy b => decide (2 < ((List.finRange 128).filter fun i => after[i].enabled && after[i].function = .occupancy b).length)
  | _, _ => false

/-- Check 4 of R21. -/
def SensorFunction.isFeedback : SensorFunction → Bool
  | .turnoutNormal _ => true
  | .turnoutReverse _ => true
  | _ => false

/-- Checks 2 to 5 of R21 for one entry. -/
def checkSensor (after : Vector SensorEntry 128) (s : State) (i : EntryId) (e : SensorEntry) : Option Status :=
  if overDetected after e then some .badValue
  else if anyOther after i fun o => e.enabled && o.enabled && o.node = e.node && o.input = e.input then some .duplicate
  else if anyOther after i fun o => e.enabled && o.enabled && e.function.isFeedback && o.function = e.function then some .duplicate
  else if functionInUse s (s.sensorEntry i).function || functionInUse s e.function then some .inUse
  else none

/-- The fields of a Sensor Map entry that checks 2 to 4 compare, read without their ranges. A function or subject out of range concerns
nothing. -/
def SensorEntry.asGiven (bs : List Byte) : SensorEntry :=
  { defaultSensor with
    enabled := bitAt bs 0 0, node := n1 bs 1, input := n1 bs 2, function := (SensorFunction.ofBytes (n1 bs 3) (n1 bs 4)).getD .spare }

/-- The functions that the written entries have before and after the write. -/
def concernedFunctions (before after : Vector SensorEntry 128) (is : List EntryId) : List SensorFunction :=
  is.map (fun i => before[i].function) ++ is.map fun i => after[i].function

def writeSensors (start : Nat) (ps : List (List Byte)) (s : State) : Status × State :=
  let is : List EntryId := writtenIndexes 128 start ps.length
  let after := proposed s.tables.sensors start SensorEntry.decode SensorEntry.asGiven ps
  let fs := concernedFunctions s.tables.sensors after is
  let bs : List BlockId := (List.finRange 48).filter fun b => fs.contains (.occupancy b)
  let us : List TurnoutId := (List.finRange 16).filter fun u => fs.contains (.turnoutNormal u) || fs.contains (.turnoutReverse u)
  concludeWrite (checkInTurn start (ps.map SensorEntry.decode) (checkSensor after s))
    (fun s =>
      let s := s.setTables fun ts => { ts with sensors := after }
      let s := is.foldl (fun s i => s.updSensor i fun _ => SensorState.initial) s
      rederiveAfterWrite bs us s) s

/-! ## Loop Configuration, Node Policy Table, Report Mask -/

/-- R1: the stored parameters change at once; running timers and counts are kept. -/
def writeLoop (es : List (Option LoopConfig)) (s : State) : Status × State :=
  match es with
  | [some e] => (.ok, s.setTables fun ts => { ts with loop := e })
  | _ => (.badValue, s)

/-- R18. -/
def writePolicy (start : Nat) (es : List (Option PolicyEntry)) (s : State) : Status × State :=
  (.ok, s.setTables fun ts => { ts with policy := putFrom ts.policy start es })

/-- R173. -/
def writeMask (m : BitVec 32) (s : State) : Status × State := (.ok, s.setTables fun ts => { ts with mask := m })

/-! ## Patch Table (R109) -/

/-- Two mapped entries name the same lamp node and node channel. -/
def PatchEntry.clashes (a b : PatchEntry) : Bool := a.mapped && b.mapped && a.node = b.node && a.nodeChannel = b.nodeChannel

/-- A channel mapped MERGE. -/
def PatchEntry.isMerge (e : PatchEntry) : Bool := e.mapped && e.ownership = .merge

/-- The fields of a Patch Table entry that DUPLICATE compares, read without their ranges. -/
def PatchEntry.asGiven (bs : List Byte) : PatchEntry :=
  { defaultPatch with mapped := bitAt bs 0 0, node := n1 bs 1, nodeChannel := n1 bs 2 }

/-- The dynamic state of a written channel (R109). -/
def ChannelState.rewritten (old new : PatchEntry) (x : ChannelState) : ChannelState :=
  let held (v : Nat) : Nat := if new.engineOwned then min v new.ceiling else 0
  { lit := false, staggerTimer := none, override := none, overrideTimer := none, offered := none
    showValue := if old.isMerge && new.isMerge then x.showValue else 0
    target := held x.target, output := held x.output, emitted := held x.emitted }

def writePatch (start : Nat) (ps : List (List Byte)) (s : State) : Status × State :=
  let is : List ChannelId := writtenIndexes 192 start ps.length
  let before := s.tables.patch
  let after := proposed before start PatchEntry.decode PatchEntry.asGiven ps
  concludeWrite
    (checkInTurn start (ps.map PatchEntry.decode) fun (c : ChannelId) e => if anyOther after c fun o => o.clashes e then some .duplicate else none)
    (fun s =>
      is.foldl (fun s c => s.updChannel c (ChannelState.rewritten before[c] after[c])) (s.setTables fun ts => { ts with patch := after }))
    s

/-! ## The curves and the Clock Configuration -/

/-- R102. -/
def writeSky (es : List (Option (List (Nat × Nat)))) (s : State) : Status × State :=
  match es with
  | [some ps] => (.ok, recomputeSky (s.setTables fun ts => { ts with sky := ps }))
  | _ => (.badValue, s)

/-- R105. -/
def writeAmbient (es : List (Option (List (Nat × Nat)))) (s : State) : Status × State :=
  match es with
  | [some ps] => (.ok, s.setTables fun ts => { ts with ambient := ps })
  | _ => (.badValue, s)

/-- R95: what a change of the ambient node does. -/
def DayClock.ambientNodeSet (old new : ClockConfig) (c : DayClock) : DayClock :=
  if old.ambientNode = new.ambientNode then c
  else { c with ambientStale := false, ambientTimer := if new.ambientNode = 0 then none else some (new.ambientTimeout * 1000) }

/-- R95. -/
def writeClock (es : List (Option ClockConfig)) (s : State) : Status × State :=
  match es with
  | [some e] =>
    let old := s.tables.clock
    (.ok, (s.setTables fun ts => { ts with clock := e }).updClock (DayClock.ambientNodeSet old e))
  | _ => (.badValue, s)

/-! ## Rotor Table (R130) -/

/-- Two enabled entries name the same node and channel. -/
def RotorEntry.clashes (a b : RotorEntry) : Bool := a.enabled && b.enabled && a.node = b.node && a.channel = b.channel

/-- The fields of a Rotor Table entry that DUPLICATE compares, read without their ranges. -/
def RotorEntry.asGiven (bs : List Byte) : RotorEntry :=
  { defaultRotor with enabled := bitAt bs 0 0, node := n1 bs 1, channel := n1 bs 2 }

/-- The record of a written rotor (R130, R131). -/
def RotorRecord.written (e : RotorEntry) (x : RotorRecord) : RotorRecord :=
  { x.cleared with refreshTimer := if e.enabled then some Config.refreshPeriod else none }

def writeRotors (start : Nat) (ps : List (List Byte)) (s : State) : Status × State :=
  let is : List RotorId := writtenIndexes 4 start ps.length
  let after := proposed s.tables.rotors start RotorEntry.decode RotorEntry.asGiven ps
  concludeWrite
    (checkInTurn start (ps.map RotorEntry.decode) fun (r : RotorId) e =>
      if anyOther after r fun o => o.clashes e then some .duplicate
      else if (s.rotor r).condition.isTurning then some .inUse
      else none)
    (fun s => is.foldl (fun s r => s.updRotor r (RotorRecord.written after[r])) (s.setTables fun ts => { ts with rotors := after })) s

/-! ## Cue Table (R142) -/

/-- A selector that names the entry's own index. -/
def CueEntry.namesItself (k : CueId) (e : CueEntry) : Bool := e.triggerA = .cueFired k || e.triggerB = some (.cueFired k)

def writeCues (start : Nat) (es : List (Option CueEntry)) (s : State) : Status × State :=
  let is : List CueId := writtenIndexes 64 start es.length
  let after := putFrom s.tables.cues start es
  concludeWrite (checkInTurn start es fun (k : CueId) e => if e.namesItself k then some .badValue else none)
    (fun s => is.foldl (fun s k => s.updCue k fun _ => CueProgress.initial after[k]) (s.setTables fun ts => { ts with cues := after })) s

/-! ## WRITE TABLE and READ TABLE (R170) -/

/-- The entry pieces of a request; it has passed check 5. -/
def entryPieces (t : TableId) (bs : List Byte) : List (List Byte) := chunks bs.length (t.entrySize bs) bs

/-- The table's own checks and effects. -/
def writeEntries (t : TableId) (start : Nat) (ps : List (List Byte)) (s : State) : Status × State :=
  match t with
  | .block => writeBlocks start (ps.map BlockEntry.decode) s
  | .turnout => writeTurnouts start (ps.map TurnoutEntry.decode) s
  | .route => writeRoutes start (ps.map RouteEntry.decode) s
  | .train => writeTrains start ps s
  | .sensor => writeSensors start ps s
  | .loop => writeLoop (ps.map LoopConfig.decode) s
  | .policy => writePolicy start (ps.map PolicyEntry.decode) s
  | .patch => writePatch start ps s
  | .sky => writeSky (ps.map decodeSky) s
  | .ambient => writeAmbient (ps.map decodeAmbient) s
  | .clock => writeClock (ps.map ClockConfig.decode) s
  | .rotor => writeRotors start ps s
  | .cue => writeCues start (ps.map CueEntry.decode) s
  | .mask => writeMask (decodeMask ps.flatten) s

/-- R170: WRITE TABLE, the general checks in their order and then the table's own. -/
def writeTable (table start : Byte) (bs : List Byte) (s : State) : Status × State :=
  match TableId.ofCode table.toNat with
  | none => (.badValue, s)
  | some t =>
    if s.store.writing.isSome then (.busy, s)
    else if t.isSafety ∧ s.mode ≠ .hold then (.wrongMode, s)
    else if t.entries ≤ start.toNat then (.badIndex, s)
    else if t.lengthFits start.toNat bs then writeEntries t start.toNat (entryPieces t bs) s
    else (.badLength, s)

/-- Consecutive entries of a table in their layout. -/
def sliceBytes {α : Type} {n : Nat} (v : Vector α n) (start count : Nat) (encode : α → List Byte) : List Byte :=
  ((v.toList.drop start).take count).flatMap encode

/-- The bytes of a table's entries, as READ TABLE returns them. -/
def tableBytes (ts : Tables) (t : TableId) (start count : Nat) : List Byte :=
  match t with
  | .block => sliceBytes ts.blocks start count BlockEntry.encode
  | .turnout => sliceBytes ts.turnouts start count TurnoutEntry.encode
  | .route => sliceBytes ts.routes start count RouteEntry.encode
  | .train => sliceBytes ts.trains start count TrainEntry.encode
  | .sensor => sliceBytes ts.sensors start count SensorEntry.encode
  | .loop => ts.loop.encode
  | .policy => sliceBytes ts.policy start count PolicyEntry.encode
  | .patch => sliceBytes ts.patch start count PatchEntry.encode
  | .sky => encodeSky ts.sky
  | .ambient => encodeAmbient ts.ambient
  | .clock => ts.clock.encode
  | .rotor => sliceBytes ts.rotors start count RotorEntry.encode
  | .cue => sliceBytes ts.cues start count CueEntry.encode
  | .mask => word32Bytes ts.mask

/-- R170: READ TABLE, its status and result. -/
def readTable (table start count : Byte) (s : State) : Status × List Byte :=
  match TableId.ofCode table.toNat with
  | none => (.badValue, [])
  | some t =>
    if t.entries ≤ start.toNat then (.badIndex, [])
    else if count = 0 ∨ t.entries < start.toNat + count.toNat then (.badLength, [])
    else
      let bs := tableBytes s.tables t start.toNat count.toNat
      if Config.maxResult < bs.length then (.badLength, []) else (.ok, bs)

end Sys2Proof.Machine
end

