-- ==== Sys2Proof/Machine/Reading.lean ====
section
/-!
DEFINITION. What the host reads: IDENTIFY, READ STATE and READ COUNTERS (R171, R180, R181) over the items that R2, R20, R35, R66, R93, R108,
R129, R141 and R155 list. The byte layout follows R179 and R181; the choices it leaves are log entries 11 to 14, 34 and 36.
-/

namespace Sys2Proof.Machine

/-! ## Codes of named values: their places in the defining tables (R179) -/

def PartMode.code : PartMode → Nat
  | .starting => 0 | .hold => 1 | .run => 2 | .holding => 3

def LoopState.code : LoopState → Nat
  | .down => 0 | .proving => 1 | .qualified => 2

/-- The codes follow R37 and Table 0-6, CLEAR, OCCUPIED, UNKNOWN; Table 2-5 lists UNKNOWN, OCCUPIED, CLEAR (log entry 36). -/
def Detection.code : Detection → Nat
  | .clear => 0 | .occupied => 1 | .unknown => 2

def Indication.code : Indication → Nat
  | .unknown => 0 | .normal => 1 | .reverse => 2 | .both => 3 | .none => 4

def ReportedState.code : ReportedState → Nat
  | .out => 0 | .held => 1 | .free => 2 | .stray => 3 | .unknown => 4

def Role.code : Role → Nat
  | .occupied => 0 | .reserved => 1

def CrossingState.code : CrossingState → Nat
  | .idle => 0 | .warning => 1 | .active => 2

def TurnoutCondition.code : TurnoutCondition → Nat
  | .free => 0 | .moving => 1 | .set => 2 | .fault => 3

/-- UNKNOWN, NORMAL, REVERSE in the order of R39. -/
def believedCode : Option Position → Nat
  | none => 0
  | some .normal => 1
  | some .reverse => 2

def TrainCondition.code : TrainCondition → Nat
  | .absent => 0 | .lost => 1 | .stopped => 2 | .running => 3 | .braking => 4 | .halted => 5

def RampDirection.code : RampDirection → Nat
  | .up => 0 | .down => 1 | .none => 2

def RotorCondition.code : RotorCondition → Nat
  | .unhomed => 0 | .homing => 1 | .stopped => 2 | .running => 3 | .stopping => 4 | .halted => 5

def CueStage.code : CueStage → Nat
  | .disabled => 0 | .waitA => 1 | .waitB => 2 | .holdOff => 3

def OpenHalf.code : OpenHalf → Nat
  | .a => 0 | .b => 1

/-- IDLE, BUSY (R175). -/
def SettingsStore.stateCode (x : SettingsStore) : Nat := if x.writing.isSome then 1 else 0

/-- The image is VALID when the mark is present and the CRC matches (Section 10.5). -/
def Image.isValid (i : Image) : Bool := i.mark && i.crcMatches

/-- VALID, INVALID. -/
def Image.stateCode (i : Image) : Nat := if i.isValid then 0 else 1

/-! ## Fields -/

/-- A list of blocks: a count, then as many slots as the list can hold, those past the count 0 (R181). -/
def blockList (slots : Nat) (bs : List BlockId) : List Byte :=
  byte bs.length :: bs.map (fun b => byte b.val) ++ List.replicate (slots - bs.length) 0

/-- The slew remainder in four bytes, two's complement; every bit set when absent (R179). -/
def slewBytes : Option Int → List Byte
  | none => List.replicate 4 0xFF
  | some r => word32Bytes (BitVec.ofInt 32 r)

/-- The Missing Node List as a map of 12 bytes (R20). -/
def missingMap (m : BitVec 96) : List Byte := (List.range 12).map fun j => m.extractLsb' (8 * j) 8

/-! ## Block-wide items (codes 0, 1, 5, 6, 8) -/

/-- R171: the Management Unit. -/
def managementItems (s : State) : List Byte :=
  [byte s.mode.code, byte s.store.stateCode, byte s.store.image.stateCode, byte s.mgmt.intake.length, byte s.repliesWaiting]

/-- R2: the loop. -/
def loopItems (s : State) : List Byte :=
  [byte s.loop.state.code] ++ optNum 1 (s.loop.downCause.map DownCause.code)
    ++ [s.loop.echoNumber, byte s.loop.goodCount, byte s.loop.errorCount] ++ missingMap s.field.missing

/-- R108: the Day Clock. -/
def clockItems (c : DayClock) : List Byte :=
  num 4 c.virtualTime ++ num 3 c.second ++ num 2 c.day ++ num 2 c.rate ++ [byte c.fraction] ++ slewBytes c.slew ++ num 2 c.sky
    ++ num 2 c.ambient ++ num 2 c.lastRatio ++ num 2 c.lastCurve ++ [flagByte [c.ambientStale, c.ambientTimer.isSome]]

/-! ## Records -/

/-- R35: a Sensor Map entry; named values ACTIVE, INACTIVE and STALE, FRESH in the order of Table 2-3. -/
def sensorRecord (x : SensorState) : List Byte :=
  [byte (if x.raw then 0 else 1), byte (if x.filtered then 0 else 1), byte (if x.fresh then 1 else 0), flagByte [x.timer.isSome]]

/-- R35: a block. -/
def viewRecord (v : BlockView) : List Byte := [byte v.detection.code, flagByte [v.fullyFresh]]

/-- R66: a block. -/
def blockRecord (s : State) (b : BlockId) : List Byte :=
  let x := s.block b
  [byte (reportedState s b).code] ++ optNum 1 (x.holding.map fun h => h.1.val) ++ optNum 1 (x.holding.map fun h => h.2.code)
    ++ [byte x.detection.code, flagByte [x.intruded], byte x.crossing.code, byte (aspect s b).code]

/-- R66: a turnout. -/
def turnoutRecord (x : TurnoutState) : List Byte :=
  [byte x.condition.code, byte (believedCode x.position)] ++ optNum 1 (x.commanded.map Position.code)
    ++ optNum 1 (x.lock.map fun t => t.val) ++ [byte x.indication.code]

/-- R66: a train's lists and authorised count. -/
def pathRecord (p : TrainPath) : List Byte := blockList 4 p.occupied ++ blockList 8 p.reserved ++ [byte p.authorised]

/-- R66: a position of the Route Queue; every byte 0xFF where no request stands (R181). -/
def requestRecord : Option RouteRequest → List Byte
  | none => List.replicate 6 0xFF
  | some q => [byte q.train.val, byte q.route.val] ++ num 2 q.waitLimit ++ [byte q.source.code, flagByte [q.waitTimer.isSome]]

/-- Whether a pending calibration's transit has begun (R93). -/
def TrainRecord.transitBegun (r : TrainRecord) : Bool := r.calibration.any fun c => c.entryTime.isSome

/-- R93: a train. -/
def trainRecordBytes (r : TrainRecord) : List Byte :=
  [byte r.condition.code] ++ optNum 1 (r.cause.map HaltCause.code)
    ++ [byte r.step, byte r.target, byte r.guided, byte r.permitted, byte r.accumulator, byte r.ramp.code] ++ num 4 r.position
    ++ [byte r.carry] ++ num 4 r.unseen ++ num 4 r.missAllowance
    ++ [flagByte [r.guideTimer.isSome, r.armed, r.transitBegun]]
    ++ optNum 1 (r.calibration.map fun c => c.block.val) ++ optNum 1 (r.calibration.map fun c => c.step)
    ++ optNum 3 (r.calibration.map fun c => c.updates)

/-- R129: a channel; named values ON, OFF in the order of Table 6-3. -/
def channelRecord (e : PatchEntry) (x : ChannelState) : List Byte :=
  [byte (if x.lit then 0 else 1), flagByte [x.staggerTimer.isSome, x.overrideTimer.isSome, channelChanged e x]]
    ++ optNum 1 x.override ++ [byte x.showValue, byte x.target, byte x.output, byte x.emitted] ++ optNum 1 x.offered

/-- R141: a rotor. -/
def rotorRecordBytes (x : RotorRecord) : List Byte :=
  [byte x.condition.code] ++ optNum 1 (x.cause.map RotorCause.code) ++ [byte x.step, byte x.target] ++ optNum 1 x.pendingTarget
    ++ [byte x.accumulator, byte x.ramp.code] ++ num 3 x.runTime
    ++ [flagByte [x.indexSeen, x.lapRenewed, x.lapOverrun, x.refreshTimer.isSome]] ++ optNum 2 x.lastLap ++ optNum 2 x.phase
    ++ num 2 x.revolutions

/-- R155: a cue. -/
def cueRecord (x : CueProgress) : List Byte :=
  [byte x.stage.code, byte x.count] ++ optNum 1 (x.openHalf.map OpenHalf.code)
    ++ [flagByte [x.windowTimer.isSome, x.holdOffTimer.isSome]] ++ num 2 x.fireCount
    ++ optNum 2 (x.stamp.map Prod.fst) ++ optNum 3 (x.stamp.map Prod.snd)

/-! ## READ STATE -/

/-- Subjects of READ STATE (R180). -/
inductive StateBlock where
  | management | loop | inputs | blocks | trains | clock | channels | rotors | cues | views | indications | turnouts | paths | requests
  deriving DecidableEq, Repr

/-- Block codes 0 to 13 of R180. -/
def StateBlock.ofCode (n : Nat) : Option StateBlock :=
  match n with
  | 0 => some .management
  | 1 => some .loop
  | 2 => some .inputs
  | 3 => some .blocks
  | 4 => some .trains
  | 5 => some .clock
  | 6 => some .channels
  | 7 => some .rotors
  | 8 => some .cues
  | 9 => some .views
  | 10 => some .indications
  | 11 => some .turnouts
  | 12 => some .paths
  | 13 => some .requests
  | _ => none

/-- Indexed subjects of a block code; none for the codes without indexed subjects. -/
def StateBlock.subjects : StateBlock → Option Nat
  | .management => none | .loop => none | .clock => none
  | .inputs => some 128 | .blocks => some 48 | .trains => some 8 | .channels => some 192 | .rotors => some 4 | .cues => some 64
  | .views => some 48 | .indications => some 16 | .turnouts => some 16 | .paths => some 8 | .requests => some 8

/-- The block-wide items of a block code (R181). -/
def blockWide (s : State) : StateBlock → List Byte
  | .management => managementItems s
  | .loop => loopItems s
  | .clock => clockItems s.clock
  | .channels => [byte s.lamps.flashCount, byte s.lamps.restatementCount]
  | .cues => [byte s.cues.pendingEvents.length]
  | _ => []

/-- The record of one subject of a range of `n`. -/
def recordAt {n : Nat} (f : Fin n → List Byte) (i : Nat) : List Byte :=
  match finOf n i with
  | none => []
  | some k => f k

/-- The record of a block code's subject (R181). -/
def subjectRecord (s : State) (b : StateBlock) (i : Nat) : List Byte :=
  match b with
  | .management => []
  | .loop => []
  | .clock => []
  | .inputs => recordAt (fun e => sensorRecord (s.sensor e)) i
  | .blocks => recordAt (fun b => blockRecord s b) i
  | .trains => recordAt (fun t => trainRecordBytes (s.train t)) i
  | .channels => recordAt (fun c => channelRecord (s.patchEntry c) (s.channel c)) i
  | .rotors => recordAt (fun r => rotorRecordBytes (s.rotor r)) i
  | .cues => recordAt (fun k => cueRecord (s.cue k)) i
  | .views => recordAt (fun b => viewRecord (s.view b)) i
  | .indications => recordAt (fun u : TurnoutId => [byte s.filter.turnouts[u].code]) i
  | .turnouts => recordAt (fun u => turnoutRecord (s.turnout u)) i
  | .paths => recordAt (fun t => pathRecord (s.path t)) i
  | .requests => requestRecord s.interlock.queue[i]?

/-- The result of READ STATE: the block-wide items, then one record for each index (R181). -/
def stateResult (s : State) (b : StateBlock) (first count : Nat) : List Byte :=
  blockWide s b ++ (List.range count).flatMap fun i => subjectRecord s b (first + i)

/-- R141: the lap flags of the rotors a reply carried. -/
def clearLapFlags (first count : Nat) (s : State) : State :=
  (writtenIndexes 4 first count).foldl (fun s (r : RotorId) => s.updRotor r fun x => { x with lapRenewed := false, lapOverrun := false }) s

/-- R171: READ STATE. -/
def readState (block first count : Byte) (s : State) : Status × List Byte × State :=
  match StateBlock.ofCode block.toNat with
  | none => (.badValue, [], s)
  | some b =>
    match b.subjects with
    | none => (.ok, blockWide s b, s)
    | some n =>
      if n ≤ first.toNat then (.badIndex, [], s)
      else if n < first.toNat + count.toNat ∨ Config.maxResult < (stateResult s b first.toNat count.toNat).length then (.badLength, [], s)
      else (.ok, stateResult s b first.toNat count.toNat, if b = .rotors then clearLapFlags first.toNat count.toNat s else s)

/-! ## IDENTIFY and READ COUNTERS -/

/-- R171, R181: the result of IDENTIFY. -/
def identifyResult (s : State) : List Byte :=
  num 2 Config.identification
    ++ [byte Config.formatLevel, byte s.mode.code, byte s.store.stateCode, byte s.store.image.stateCode]

/-- The first six counters of a receiving port. -/
def PortTotals.values (p : PortTotals) : List Counter := [p.good, p.checkErrors, p.formatErrors, p.forwarded, p.consumed, p.dropped]

/-- The counters of a group (R180); none for an unknown group. -/
def counterGroup (c : Counters) (group : Nat) : Option (List Counter) :=
  match group with
  | 0 => some c.sIn.values
  | 1 => some c.sInDrops.toList
  | 2 => some c.fIn.values
  | 3 => some c.fInDrops.toList
  | 4 => some [c.fOut.sentUrgent, c.fOut.sentEngine, c.fOut.sentPass, c.fOut.purged]
  | 5 => some [c.sOut.replies, c.sOut.events, c.sOut.reports, c.sOut.refused]
  | 6 => some [c.block.ambientAccepted, c.block.ambientRejected, c.block.runsDeferred, c.block.cueDiscarded]
  | _ => none

/-- R171: READ COUNTERS. -/
def readCounters (group : Byte) (s : State) : Status × List Byte :=
  match counterGroup s.counters group.toNat with
  | none => (.badValue, [])
  | some cs => (.ok, cs.flatMap word32Bytes)

end Sys2Proof.Machine
end

