-- ==== Sys2Proof/Machine/Settings.lean ====
section
/-!
DEFINITION. Resets and the Settings Store (R174–R177): every block's values after power-on, RESTART and RESTORE, the start of the timers at
the end of STARTING, the loads and the store operation. Commands: POWER_ON, START_UP_LOAD_COMPLETE, RESTORE_LOAD_COMPLETE,
STORE_WRITE_DONE, STORE_WRITE_ERROR.
-/

namespace Sys2Proof.Machine

/-! ## The blocks' values after a reset -/

/-- R94 and R107, RESTART and RESTORE: time and day kept, rate and ambient level from the Clock Configuration, S computed anew. -/
def DayClock.afterReset (ts : Tables) (c : DayClock) : DayClock :=
  { virtualTime := c.virtualTime, day := c.day, rate := ts.clock.startRate, fraction := 0, slew := none,
    sky := skyLevel ts.sky c.second, ambient := ts.clock.ambientDefault, lastRatio := 0, lastCurve := 0, ambientStale := false,
    ambientTimer := none, tickTimer := none }

/-- R94 and R107, power-on: the configured start time on day 0. -/
def DayClock.afterPowerOn (ts : Tables) : DayClock :=
  DayClock.afterReset ts { DayClock.initial with virtualTime := ts.clock.startTime * 1000, day := 0 }

/-- R110, RESTART and RESTORE: a channel of the part's own keeps output and emitted level within its ceiling. -/
def ChannelState.afterReset (e : PatchEntry) (x : ChannelState) : ChannelState :=
  if e.engineOwned then { ChannelState.initial with output := min x.output e.ceiling, emitted := min x.emitted e.ceiling }
  else ChannelState.initial

/-- R110, RESTART and RESTORE. -/
def LampEngine.afterReset (ts : Tables) (l : LampEngine) : LampEngine :=
  { LampEngine.initial with channels := tabulate fun c => ChannelState.afterReset ts.patch[c] l.channels[c] }

/-- The blocks whose values after a reset depend on the tables alone (R23, R37, R39, R46, R52, R68, R131, R143). -/
def State.resetFromTables (s : State) : State :=
  { s with
    filter := InputFilter.initial
    interlock := Interlocking.initial
    motion := MotionEngine.initial s.tables
    rotors := RotorUnit.initial
    cues := CueEngine.initial s.tables }

/-- The Day Clock and the Lamp Engine after RESTART or RESTORE, under the tables in force. -/
def State.resetKeepingTime (s : State) : State :=
  { s with clock := s.clock.afterReset s.tables, lamps := s.lamps.afterReset s.tables }

/-! ## The end of STARTING -/

/-- A train's refresh timer at the end of STARTING (R68). -/
def TrainRecord.startTimers (r : TrainRecord) : TrainRecord :=
  if r.condition = .absent then r else { r with refreshTimer := some Config.refreshPeriod }

/-- A rotor's refresh timer at the end of STARTING (R131). -/
def RotorRecord.startTimers (e : RotorEntry) (x : RotorRecord) : RotorRecord :=
  if e.enabled then { x with refreshTimer := some Config.refreshPeriod } else x

/-- The timers every block starts when the part mode leaves STARTING (R2, R68, R94, R107, R110, R131). -/
def startTimers (s : State) : State :=
  let ts := s.tables
  { s with
    loop := { s.loop with intervalTimer := some ts.loop.echoInterval, watchdog := some (2 * ts.loop.echoInterval) }
    motion := { updateTimer := some Config.motionPeriod, trains := tabulate fun t => s.motion.trains[t].startTimers }
    clock :=
      { s.clock with
        tickTimer := some Config.clockPeriod
        ambientTimer := if ts.clock.ambientNode = 0 then none else some (ts.clock.ambientTimeout * 1000) }
    lamps := { s.lamps with refreshTimer := some Config.lampPeriod }
    rotors := { updateTimer := some Config.rotorPeriod, rotors := tabulate fun r => s.rotors.rotors[r].startTimers ts.rotors[r] } }

/-- STARTING becomes HOLD (Table 10-2). -/
def leaveStarting (s : State) : State := startTimers (setPartMode .hold s)

/-! ## Power-on and the loads -/

/-- R174: power is applied. The image is kept, with its mark erased if a store operation was under way (R175); everything else is as after
power-on, and the load begins. -/
def powerOn (s : State) : State :=
  { State.reset with
    store := { image := s.store.image, writing := none, loading := some .startUp }
    pending := s.pending }

/-- POWER_ON (R174). -/
def execPowerOn (s : State) : Host.Outcome State Fault Refusal := .next (powerOn s)

/-- R174: details of STORE_INVALID, MARK and CRC. -/
def invalidDetail (i : Image) : Nat := if i.mark then 1 else 0

/-- R174: the tables the start-up load ends with. -/
def loadedTables (i : Image) : Tables := if i.isValid then i.tables else defaultTables

/-- R174: the start-up load ends. -/
def finishStartUp (s : State) : State :=
  let i := s.store.image
  let s := { s with tables := loadedTables i, store := { s.store with loading := none } }
  let s := { s.resetFromTables with clock := DayClock.afterPowerOn s.tables }
  let s := if i.isValid then s else raise .storeInvalid noValue (invalidDetail i) s
  leaveStarting s

/-- START_UP_LOAD_COMPLETE (R174): nothing where no start-up load is under way. -/
def execStartUpLoadComplete (s : State) : Host.Outcome State Fault Refusal :=
  .next (if s.store.loading = some .startUp then finishStartUp s else s)

/-- R176: the load of RESTORE ends. -/
def finishRestore (s : State) : State :=
  let s := { s with tables := s.store.image.tables, store := { s.store with loading := none } }
  leaveStarting s.resetFromTables.resetKeepingTime

/-- RESTORE_LOAD_COMPLETE (R176): nothing where no load of RESTORE is under way. -/
def execRestoreLoadComplete (s : State) : Host.Outcome State Fault Refusal :=
  .next (if s.store.loading = some .restore then finishRestore s else s)

/-! ## RESTART and RESTORE -/

/-- Steps 1 to 3 of R177. A frame in transmission at F-out or S-out has been completed, and its count as sent cleared with all others. -/
def resetPart (s : State) : State :=
  let s :=
    { s with
      field := FieldPort.initial
      loop := LoopMonitor.initial
      counters := Counters.zero
      link := { upstream := [], transmitting := none }
      mgmt := { mode := .starting, intake := [] }
      report := { flags := 0, overflow := false } }
  offerUrgent .allStop allStopFrame s.resetFromTables.resetKeepingTime

/-- R177, RESTART: the reset, the REPLY OK, and the end of STARTING. -/
def restartPart (tag : Byte) (s : State) : State := leaveStarting (reply tag .ok [] (resetPart s))

/-- R176, RESTORE: steps 1 to 3 of the reset, the REPLY ACCEPTED, and the load begun. -/
def restorePart (tag : Byte) (s : State) : State :=
  let s := reply tag .accepted [] (resetPart s)
  { s with store := { s.store with loading := some .restore } }

/-! ## The store operation (R175) -/

/-- The store operation's acceptance: the running tables copied, the mark erased. -/
def beginStore (s : State) : State :=
  { s with store := { s.store with image := { s.store.image with mark := false }, writing := some s.tables } }

/-- The write ends without error. -/
def finishStore (copy : Tables) (s : State) : State :=
  raise .storeDone noValue noValue
    { s with store := { s.store with image := { tables := copy, crcMatches := true, mark := true }, writing := none } }

/-- A write error ends the operation; the image stays INVALID. -/
def failStore (s : State) : State :=
  raise .storeFailed noValue noValue
    { s with store := { s.store with image := { s.store.image with mark := false }, writing := none } }

/-- STORE_WRITE_DONE (R175): nothing where the store state is IDLE. -/
def execStoreWriteDone (s : State) : Host.Outcome State Fault Refusal :=
  .next (match s.store.writing with
    | none => s
    | some copy => finishStore copy s)

/-- STORE_WRITE_ERROR (R175): nothing where the store state is IDLE. -/
def execStoreWriteError (s : State) : Host.Outcome State Fault Refusal :=
  .next (if s.store.writing.isSome then failStore s else s)

end Sys2Proof.Machine
end

