-- ==== Sys2Proof/Machine/Management.lean ====
section
/-!
DEFINITION. The Management Unit (Sections 10.1 and 10.2): the checks of R167, the rule of each request (Table 10-6), the intake (R157, R163,
R166). A management command is the arrival of one good MGMT frame at S-in (log entry 3).
-/

namespace Sys2Proof.Machine

/-! ## Rules that name an index -/

/-- An operation on an index of a range; BAD_INDEX out of range (R167). -/
def onIndex {n : Nat} (b : Byte) (f : Fin n → State → Status × State) (s : State) : Status × State :=
  match finOf n b.toNat with
  | none => (.badIndex, s)
  | some i => f i s

/-- R52, from management. -/
def runDispatch (t r : Byte) (wait : BitVec 16) (s : State) : Status × State :=
  onIndex t (fun t => onIndex r fun r => dispatchRequest t r wait.toNat .mgmt) s

/-- R81: modes 0 AUTO, 1 GUIDED (Table 11-3). -/
def runSetTrainMode (t m : Byte) (s : State) : Status × State :=
  onIndex t (fun t s =>
    match m.toNat with
    | 0 => setTrainMode t .auto s
    | 1 => setTrainMode t .guided s
    | _ => (.badValue, s)) s

/-- R63: every index is checked first. -/
def runLocate (t : Byte) (bs : List Byte) (s : State) : Status × State :=
  onIndex t (fun t s =>
    match bs.mapM fun b => finOf 48 b.toNat with
    | none => (.badIndex, s)
    | some bs => locateTrain t bs s) s

/-- R91. -/
def runCalibrate (t b step : Byte) (s : State) : Status × State :=
  onIndex t (fun t => onIndex b fun b => calibrateTrain t b step.toNat) s

/-- R169: modes 0 HOLD, 1 RUN (Table 11-3). -/
def runSetMode (m : Byte) (s : State) : Status × State :=
  match m.toNat with
  | 0 => (.ok, if s.mode = .run then beginHolding s else s)
  | 1 =>
    match s.mode with
    | .hold => if s.qualified then (.ok, setPartMode .run s) else (.notReady, s)
    | .run => (.ok, s)
    | .holding => (.wrongMode, s)
    | .starting => (.busy, s)
  | _ => (.badValue, s)

/-- R99, R100: modes 0 JUMP, 1 SLEW (Table 11-3). -/
def runClockSet (second : BitVec 24) (day : BitVec 16) (m : Byte) (s : State) : Status × State :=
  match m.toNat with
  | 0 => clockJump second.toNat day.toNat s
  | 1 => clockSlew second.toNat s
  | _ => (.badValue, s)

/-! ## The rule of a request -/

/-- A request's outcome answered: what the operation leaves due is settled, then the REPLY is placed. -/
def answer (tag : Byte) (r : Status × State) : State := reply tag r.1 [] (settle r.2)

/-- A reading request answered: its result is sent with OK alone (R166). -/
def answerWith (tag : Byte) (status : Status) (result : List Byte) (s : State) : State := reply tag status result s

/-- R173: READ FLAGS; the flags it carried are cleared. -/
def runReadFlags (tag : Byte) (s : State) : State :=
  reply tag .ok s.report.result { s with report := { flags := 0, overflow := false } }

/-- R171: CLEAR COUNTERS. -/
def clearCounters (s : State) : State := { s with counters := Counters.zero }

/-- R170, R173: WRITE MASK, the same as a WRITE TABLE of the Report Mask at index 0. -/
def runWriteMask (m : BitVec 32) (s : State) : Status × State := writeTable 13 0 (word32Bytes m) s

/-- R175: STORE. -/
def runStore (tag : Byte) (s : State) : State :=
  if s.store.writing.isSome then reply tag .busy [] s else reply tag .accepted [] (beginStore s)

/-- R176: RESTORE. -/
def runRestore (tag : Byte) (s : State) : State :=
  if s.store.writing.isSome then reply tag .busy [] s
  else if s.mode ≠ .hold then reply tag .wrongMode [] s
  else if s.store.image.isValid then restorePart tag s
  else reply tag .notAvailable [] s

/-- R177: RESTART. -/
def runRestart (tag : Byte) (s : State) : State := if s.store.writing.isSome then reply tag .busy [] s else restartPart tag s

/-- The rule of a request that has passed the checks of R167 (Table 10-6). DISPATCH is answered before its service (R52, R163). -/
def runRequest (tag : Byte) (r : Request) (s : State) : State :=
  match r with
  | .identify => answerWith tag .ok (identifyResult s) s
  | .readTable t i n => answerWith tag (readTable t i n s).1 (readTable t i n s).2 s
  | .writeTable t i es => answer tag (writeTable t i es s)
  | .readState b i n => answerWith tag (readState b i n s).1 (readState b i n s).2.1 (readState b i n s).2.2
  | .readFlags => runReadFlags tag s
  | .writeMask m => answer tag (runWriteMask m s)
  | .readCounters g => answerWith tag (readCounters g s).1 (readCounters g s).2 s
  | .clearCounters => answer tag (.ok, clearCounters s)
  | .setMode m => answer tag (runSetMode m s)
  | .stopAll => answer tag (.ok, stopAll s)
  | .dispatch t r w => settle (reply tag (runDispatch t r w s).1 [] (runDispatch t r w s).2)
  | .cancelRequest t => answer tag (onIndex t cancelRequest s)
  | .setTrainMode t m => answer tag (runSetTrainMode t m s)
  | .locate t bs => answer tag (runLocate t bs s)
  | .remove t => answer tag (onIndex t removeTrain s)
  | .clearHalt t => answer tag (onIndex t clearHalt s)
  | .reverse t => answer tag (onIndex t reverseTrain s)
  | .calibrate t b q => answer tag (runCalibrate t b q s)
  | .cancelCalibration t => answer tag (onIndex t cancelCalibration s)
  | .turnoutRetry u => answer tag (onIndex u retryTurnout s)
  | .clearBlock b => answer tag (onIndex b clearBlock s)
  | .rotorStart r q => answer tag (onIndex r (fun r => startRotor r q.toNat) s)
  | .rotorStop r => answer tag (onIndex r stopRotor s)
  | .rotorHalt r => answer tag (onIndex r requestRotorHalt s)
  | .clearRotor r => answer tag (onIndex r clearRotorRecord s)
  | .clockSet sec d m => answer tag (runClockSet sec d m s)
  | .clockRate q => answer tag (.ok, setClockRate q.toNat s)
  | .cueFire k => answer tag (onIndex k fireByRequest s)
  | .cueEnable k => answer tag (onIndex k enableCue s)
  | .cueDisable k => answer tag (onIndex k disableCue s)
  | .cueResetStamp k => answer tag (onIndex k resetStamp s)
  | .store => runStore tag s
  | .restore => runRestore tag s
  | .restart => runRestart tag s

/-! ## The checks of R167 and the intake -/

/-- R167 check 3: requests that STARTING does not refuse, IDENTIFY and READ FLAGS. -/
def answeredInStarting (code : Byte) : Bool := code = 1 || code = 5

/-- The status of a request of a known code whose arguments spell no request. The arguments of a code without a variable part are not of its
length: BAD_LENGTH (R167 check 4). A WRITE TABLE or a LOCATE of variable length is judged by its own rule (R180): of the checks of R170 and
R63 those are made, in their order, that the bytes present give something to judge (log entry 35). -/
def shortStatus (code : Byte) (args : List Byte) (s : State) : Status :=
  match code.toNat, args with
  | 3, [] => if s.store.writing.isSome then .busy else .badLength
  | 3, [table] => (writeTable table 0 [] s).1
  | 14, [] => if s.mode = .hold then .badValue else .wrongMode
  | _, _ => .badLength

/-- R167: a request's payload checked and executed. -/
def runPayload (p : List Byte) (s : State) : State :=
  match p with
  | [] => reply 0 .badLength [] s
  | [tag] => reply tag .badLength [] s
  | tag :: code :: args =>
    if knownRequestCode code = false then reply tag .unknownRequest [] s
    else if s.mode = .starting ∧ answeredInStarting code = false then reply tag .busy [] s
    else
      match requestOf code args with
      | none => reply tag (shortStatus code args s) [] s
      | some r => runRequest tag r s

/-- R163, R166: requests taken from the intake, oldest first, while fewer than 4 REPLY frames wait. The first argument bounds their number. -/
def drainIntake : Nat → State → State
  | 0, s => s
  | n + 1, s =>
    match s.mgmt.intake with
    | [] => s
    | p :: rest =>
      if s.repliesWaiting < Config.replyCapacity then drainIntake n (runPayload p { s with mgmt := { s.mgmt with intake := rest } })
      else s

/-- The Management Unit takes what it may from the intake. -/
def takeRequests (s : State) : State := drainIntake s.mgmt.intake.length s

/-- R157 case 2: a MGMT frame offered to the Management Intake. -/
def offerIntake (payload : List Byte) (s : State) : State :=
  if s.mgmt.intake.length < Config.intakeCapacity then
    takeRequests
      { s.countSIn PortTotals.addConsumed with mgmt := { s.mgmt with intake := s.mgmt.intake ++ [payload] } }
  else s.dropSIn .mgmtOverflow

/-- A good MGMT frame of the host for the part arrives at S-in (R156, R157). -/
def arriveMgmt (payload : List Byte) (s : State) : State := offerIntake payload (s.countSIn PortTotals.addGood)

/-! ## The commands -/

/-- UNKNOWN_REQUEST (R167): the whole payload of a MGMT frame. -/
def execUnknownRequest (payload : List Byte) (s : State) : Host.Outcome State Fault Refusal := .next (arriveMgmt payload s)

/-- IDENTIFY (R171). -/
def execIdentify (tag : Byte) (s : State) : Host.Outcome State Fault Refusal := .next (arriveMgmt (requestPayload tag .identify) s)

/-- READ_TABLE (R170). -/
def execReadTable (tag table start count : Byte) (s : State) : Host.Outcome State Fault Refusal :=
  .next (arriveMgmt (requestPayload tag (.readTable table start count)) s)

/-- WRITE_TABLE (R170). -/
def execWriteTable (tag table start : Byte) (entries : List Byte) (s : State) : Host.Outcome State Fault Refusal :=
  .next (arriveMgmt (requestPayload tag (.writeTable table start entries)) s)

/-- READ_STATE (R171). -/
def execReadState (tag block first count : Byte) (s : State) : Host.Outcome State Fault Refusal :=
  .next (arriveMgmt (requestPayload tag (.readState block first count)) s)

/-- READ_FLAGS (R173). -/
def execReadFlags (tag : Byte) (s : State) : Host.Outcome State Fault Refusal := .next (arriveMgmt (requestPayload tag .readFlags) s)

/-- WRITE_MASK (R173). -/
def execWriteMask (tag : Byte) (mask : BitVec 32) (s : State) : Host.Outcome State Fault Refusal :=
  .next (arriveMgmt (requestPayload tag (.writeMask mask)) s)

/-- READ_COUNTERS (R171). -/
def execReadCounters (tag group : Byte) (s : State) : Host.Outcome State Fault Refusal :=
  .next (arriveMgmt (requestPayload tag (.readCounters group)) s)

/-- CLEAR_COUNTERS (R171). -/
def execClearCounters (tag : Byte) (s : State) : Host.Outcome State Fault Refusal :=
  .next (arriveMgmt (requestPayload tag .clearCounters) s)

/-- SET_MODE (R169). -/
def execSetMode (tag mode : Byte) (s : State) : Host.Outcome State Fault Refusal :=
  .next (arriveMgmt (requestPayload tag (.setMode mode)) s)

/-- STOP_ALL (R85). -/
def execStopAll (tag : Byte) (s : State) : Host.Outcome State Fault Refusal := .next (arriveMgmt (requestPayload tag .stopAll) s)

/-- DISPATCH (R52). -/
def execDispatch (tag train route : Byte) (wait : BitVec 16) (s : State) : Host.Outcome State Fault Refusal :=
  .next (arriveMgmt (requestPayload tag (.dispatch train route wait)) s)

/-- CANCEL_REQUEST (R56). -/
def execCancelRequest (tag train : Byte) (s : State) : Host.Outcome State Fault Refusal :=
  .next (arriveMgmt (requestPayload tag (.cancelRequest train)) s)

/-- SET_TRAIN_MODE (R81). -/
def execSetTrainMode (tag train mode : Byte) (s : State) : Host.Outcome State Fault Refusal :=
  .next (arriveMgmt (requestPayload tag (.setTrainMode train mode)) s)

/-- LOCATE (R63). -/
def execLocate (tag train : Byte) (blocks : List Byte) (s : State) : Host.Outcome State Fault Refusal :=
  .next (arriveMgmt (requestPayload tag (.locate train blocks)) s)

/-- REMOVE (R64). -/
def execRemove (tag train : Byte) (s : State) : Host.Outcome State Fault Refusal :=
  .next (arriveMgmt (requestPayload tag (.remove train)) s)

/-- CLEAR_HALT (R86). -/
def execClearHalt (tag train : Byte) (s : State) : Host.Outcome State Fault Refusal :=
  .next (arriveMgmt (requestPayload tag (.clearHalt train)) s)

/-- REVERSE (R90). -/
def execReverse (tag train : Byte) (s : State) : Host.Outcome State Fault Refusal :=
  .next (arriveMgmt (requestPayload tag (.reverse train)) s)

/-- CALIBRATE (R91). -/
def execCalibrate (tag train block step : Byte) (s : State) : Host.Outcome State Fault Refusal :=
  .next (arriveMgmt (requestPayload tag (.calibrate train block step)) s)

/-- CANCEL_CALIBRATION (R91). -/
def execCancelCalibration (tag train : Byte) (s : State) : Host.Outcome State Fault Refusal :=
  .next (arriveMgmt (requestPayload tag (.cancelCalibration train)) s)

/-- TURNOUT_RETRY (R43). -/
def execTurnoutRetry (tag turnout : Byte) (s : State) : Host.Outcome State Fault Refusal :=
  .next (arriveMgmt (requestPayload tag (.turnoutRetry turnout)) s)

/-- CLEAR_BLOCK (R65). -/
def execClearBlock (tag block : Byte) (s : State) : Host.Outcome State Fault Refusal :=
  .next (arriveMgmt (requestPayload tag (.clearBlock block)) s)

/-- ROTOR_START (R132). -/
def execRotorStart (tag rotor step : Byte) (s : State) : Host.Outcome State Fault Refusal :=
  .next (arriveMgmt (requestPayload tag (.rotorStart rotor step)) s)

/-- ROTOR_STOP (R133). -/
def execRotorStop (tag rotor : Byte) (s : State) : Host.Outcome State Fault Refusal :=
  .next (arriveMgmt (requestPayload tag (.rotorStop rotor)) s)

/-- ROTOR_HALT (R135). -/
def execRotorHalt (tag rotor : Byte) (s : State) : Host.Outcome State Fault Refusal :=
  .next (arriveMgmt (requestPayload tag (.rotorHalt rotor)) s)

/-- CLEAR_ROTOR (R135). -/
def execClearRotor (tag rotor : Byte) (s : State) : Host.Outcome State Fault Refusal :=
  .next (arriveMgmt (requestPayload tag (.clearRotor rotor)) s)

/-- CLOCK_SET_JUMP (R99). -/
def execClockSetJump (tag : Byte) (second : BitVec 24) (day : BitVec 16) (s : State) : Host.Outcome State Fault Refusal :=
  .next (arriveMgmt (requestPayload tag (.clockSet second day 0)) s)

/-- CLOCK_SET_SLEW (R100). -/
def execClockSetSlew (tag : Byte) (second : BitVec 24) (day : BitVec 16) (s : State) : Host.Outcome State Fault Refusal :=
  .next (arriveMgmt (requestPayload tag (.clockSet second day 1)) s)

/-- CLOCK_RATE (R101). -/
def execClockRate (tag : Byte) (rate : BitVec 16) (s : State) : Host.Outcome State Fault Refusal :=
  .next (arriveMgmt (requestPayload tag (.clockRate rate)) s)

/-- CUE_FIRE (R154). -/
def execCueFire (tag cue : Byte) (s : State) : Host.Outcome State Fault Refusal :=
  .next (arriveMgmt (requestPayload tag (.cueFire cue)) s)

/-- CUE_ENABLE (R153). -/
def execCueEnable (tag cue : Byte) (s : State) : Host.Outcome State Fault Refusal :=
  .next (arriveMgmt (requestPayload tag (.cueEnable cue)) s)

/-- CUE_DISABLE (R153). -/
def execCueDisable (tag cue : Byte) (s : State) : Host.Outcome State Fault Refusal :=
  .next (arriveMgmt (requestPayload tag (.cueDisable cue)) s)

/-- CUE_RESET_STAMP (R155). -/
def execCueResetStamp (tag cue : Byte) (s : State) : Host.Outcome State Fault Refusal :=
  .next (arriveMgmt (requestPayload tag (.cueResetStamp cue)) s)

/-- STORE (R175). -/
def execStore (tag : Byte) (s : State) : Host.Outcome State Fault Refusal := .next (arriveMgmt (requestPayload tag .store) s)

/-- RESTORE (R176). -/
def execRestore (tag : Byte) (s : State) : Host.Outcome State Fault Refusal := .next (arriveMgmt (requestPayload tag .restore) s)

/-- RESTART (R177). -/
def execRestart (tag : Byte) (s : State) : Host.Outcome State Fault Refusal := .next (arriveMgmt (requestPayload tag .restart) s)

end Sys2Proof.Machine
end

