-- ==== Sys2Proof/Machine/FieldArrivals.lean ====
section
/-!
DEFINITION. Frames arriving at F-in (Section 1.5): judgement (R16), classification (Table 1-6), unclaimed frames (R17), node reports (R18)
and the Missing Node List (R20). Commands: F_IN_FRAME, ECHO_RECEIVED, UNCLAIMED_FRAME, SENSE_RECEIVED, LIGHTCOUNT_RECEIVED,
NODE_FAULT_RECEIVED.
-/

namespace Sys2Proof.Machine

/-! ## The Missing Node List (R20) -/

/-- The word with the bit of one field address set: address a at bit a − 1. -/
def nodeBit (node : Nat) : BitVec 96 := BitVec.ofNat 96 (2 ^ (node - 1))

def FieldPort.isMissing (p : FieldPort) (node : Nat) : Bool := p.missing.getLsbD (node - 1)

def addMissing (node : Nat) (s : State) : State := { s with field := { s.field with missing := s.field.missing ||| nodeBit node } }

def removeMissing (node : Nat) (s : State) : State := { s with field := { s.field with missing := s.field.missing &&& ~~~nodeBit node } }

/-! ## Subjects of frames -/

/-- The enabled train of a drive node and channel. -/
def trainAt (ts : Tables) (node channel : Nat) : Option TrainId :=
  (List.finRange 8).find? fun t => ts.trains[t].enabled && ts.trains[t].node = node && ts.trains[t].channel = channel

/-- The enabled turnout of a node and channel. -/
def turnoutAt (ts : Tables) (node channel : Nat) : Option TurnoutId :=
  (List.finRange 16).find? fun u => ts.turnouts[u].enabled && ts.turnouts[u].node = node && ts.turnouts[u].channel = channel

/-- The enabled rotor of a node and channel. -/
def rotorAt (ts : Tables) (node channel : Nat) : Option RotorId :=
  (List.finRange 4).find? fun r => ts.rotors[r].enabled && ts.rotors[r].node = node && ts.rotors[r].channel = channel

/-! ## Unclaimed frames (R17) -/

/-- An operation on the subject of a frame, where it has one. -/
def onSubject {α : Type} (x : Option α) (f : α → State → State) (s : State) : State :=
  match x with
  | none => s
  | some a => f a s

/-- Table 1-7. The channel of a frame without payload is read as 0 (log entry 32). -/
def unclaimedEffect (f : Frame) (s : State) : State :=
  let node := f.dest.toNat
  let channel := n1 f.payload 0
  if f.kind = kindDrive then onSubject (trainAt s.tables node channel) (fun t => haltTrain t .node) s
  else if f.kind = kindSwitch then onSubject (turnoutAt s.tables node channel) (fun u => faultTurnout u .node) s
  else if f.kind = kindRotor then onSubject (rotorAt s.tables node channel) (fun r => haltRotor r .node) s
  else s

/-- R17: the Missing Node List, NODE_MISSING, and the owner of the subject told. -/
def takeUnclaimed (f : Frame) (s : State) : State :=
  let known := s.field.isMissing f.dest.toNat
  let s := addMissing f.dest.toNat s
  let s := if known then s else raise .nodeMissing f.dest.toNat f.kind.toNat s
  settle (unclaimedEffect f s)

/-! ## Node reports (R18) -/

/-- Whether the Node Policy entry of a node sets the flag of a report's kind. -/
def forwards (ts : Tables) (node : Nat) (kind : Byte) : Bool :=
  match finOf 96 (node - 1) with
  | none => false
  | some i =>
    let e := ts.policy[i]
    (kind = kindSense && e.forwardSense) || (kind = kindLightcount && e.forwardLightcount) || (kind = kindNodeFault && e.forwardNodeFault)

/-- What a report does at the block that takes it, and whether a block takes it. -/
def deliverReport (f : Frame) (s : State) : Bool × State :=
  let node := f.src.toNat
  if f.kind = kindSense then (true, settle (takeSense node f.payload s))
  else if f.kind = kindLightcount then
    if node = s.tables.clock.ambientNode then (true, takeLightcount f.payload s) else (false, s)
  else if f.kind = kindNodeFault then (true, raise .nodeFault node (n2 f.payload 0) s)
  else (false, s)

/-- The copy of a report for the host: DEST replaced by 126. -/
def Frame.toHost (f : Frame) : Frame := { f with dest := byte Config.hostAddress }

/-- R18: a report's forwarding and its counting at F-in. -/
def disposeReport (f : Frame) (taken : Bool) (s : State) : State :=
  if forwards s.tables f.src.toNat f.kind then
    if s.upstreamTakes then placeUpstream f.toHost (s.countFIn PortTotals.addForwarded) else s.dropFIn .upstreamFull
  else if taken then s.countFIn PortTotals.addConsumed
  else if f.kind = kindLightcount then s.dropFIn .noTaker
  else s.dropFIn .kind

/-- R18: a report from a field node. -/
def takeReport (f : Frame) (s : State) : State :=
  let r := deliverReport f (removeMissing f.src.toNat s)
  disposeReport f r.1 r.2

/-! ## Classification (Table 1-6) -/

/-- A field address 1–96. -/
def isFieldAddress (a : Byte) : Bool := 1 ≤ a.toNat && a.toNat ≤ 96

/-- Table 1-6: a good frame by its SRC, DEST and KIND. -/
def classifyFIn (f : Frame) (s : State) : State :=
  if f.src = 0 then
    if f.kind = kindEcho then takeEcho f.payload s
    else if f.dest = 127 then s.dropFIn .returned
    else if isFieldAddress f.dest then takeUnclaimed f (s.countFIn PortTotals.addConsumed)
    else s.dropFIn .address
  else if isFieldAddress f.src then takeReport f s
  else if f.src = 126 then
    if f.dest = 127 then s.dropFIn .returned
    else if isFieldAddress f.dest then s.dropFIn .unclaimedPass
    else s.dropFIn .address
  else s.dropFIn .address

/-- R16: a good frame at F-in. -/
def arriveFIn (f : Frame) (s : State) : State := classifyFIn f (s.countFIn PortTotals.addGood)

/-- R16: the characters that line idle ended at F-in. -/
def receiveFIn (chars : List Byte) (s : State) : State :=
  match judge chars with
  | .formatError => loopError (s.countFIn PortTotals.addFormatError)
  | .checkError => loopError (s.countFIn PortTotals.addCheckError)
  | .good f => arriveFIn f s

/-! ## The commands -/

/-- F_IN_FRAME (R16). -/
def execFInFrame (chars : List Byte) (s : State) : Host.Outcome State Fault Refusal := .next (receiveFIn chars s)

/-- ECHO_RECEIVED (R4): a good ECHO with SRC 0. -/
def execEchoReceived (payload : List Byte) (s : State) : Host.Outcome State Fault Refusal :=
  .next (arriveFIn { dest := 0, src := 0, kind := kindEcho, payload } s)

/-- UNCLAIMED_FRAME (R17): a good frame with SRC 0. -/
def execUnclaimedFrame (dest kind : Byte) (payload : List Byte) (s : State) : Host.Outcome State Fault Refusal :=
  .next (arriveFIn { dest, src := 0, kind, payload } s)

/-- SENSE_RECEIVED (R24). -/
def execSenseReceived (src : Byte) (payload : List Byte) (s : State) : Host.Outcome State Fault Refusal :=
  .next (arriveFIn { dest := 0, src, kind := kindSense, payload } s)

/-- LIGHTCOUNT_RECEIVED (R104). -/
def execLightcountReceived (src : Byte) (payload : List Byte) (s : State) : Host.Outcome State Fault Refusal :=
  .next (arriveFIn { dest := 0, src, kind := kindLightcount, payload } s)

/-- NODE_FAULT_RECEIVED (R18). -/
def execNodeFaultReceived (src : Byte) (payload : List Byte) (s : State) : Host.Outcome State Fault Refusal :=
  .next (arriveFIn { dest := 0, src, kind := kindNodeFault, payload } s)

end Sys2Proof.Machine
end

