-- ==== Sys2Proof/Machine/ShowArrivals.lean ====
section
/-!
DEFINITION. Frames arriving at S-in (R156, R157), the Pass Filter (R158–R160) with the owners' rules for host frames (R45, R79, R126, R127,
R140, R159), and S-out (R165). Commands: S_IN_FRAME, HOST_DRIVE, HOST_SWITCH, HOST_ROTOR, HOST_LEVEL, HOST_ALLSTOP, HOST_SENSE_REQUEST,
HOST_UNKNOWN_KIND_FRAME, S_OUT_TRANSMIT_COMPLETE.
-/

namespace Sys2Proof.Machine

/-! ## The screens (Table 9-1) -/

/-- Kinds that only a field node or the part sends (screen 2). -/
def isPartKind (k : Byte) : Bool :=
  k = kindEcho || k = kindSense || k = kindLightcount || k = kindNodeFault || k = kindMgmt || k = kindReply || k = kindEvent

/-- Kinds that move or throw things (screens 3 to 5). -/
def isSetpointKind (k : Byte) : Bool := k = kindDrive || k = kindSwitch || k = kindRotor

/-- The payload length of DRIVE, SWITCH and ROTOR (Table 11-2). -/
def setpointLength (k : Byte) : Nat := if k = kindSwitch then 2 else 3

/-- R158: the reason of the first screen that applies. -/
def screenReason (s : State) (f : Frame) : Option SInDrop :=
  if s.mode = .starting then some .starting
  else if isPartKind f.kind then some .kind
  else if isSetpointKind f.kind then
    if f.payload.length ≠ setpointLength f.kind then some .length
    else if f.dest = 127 then some .broadcast
    else if s.qualified then none
    else some .loopNotReady
  else none

/-! ## Handing on (R160) -/

/-- R160: a frame offered to the Pass Queue. -/
def handOn (f : Frame) (s : State) : State :=
  if s.field.pass.length < Config.passCapacity then
    { s.countSIn PortTotals.addForwarded with field := { s.field with pass := s.field.pass ++ [f] }.grant }
  else raise .passOverflow f.dest.toNat noValue (s.dropSIn .passOverflow)

/-- A frame consumed by its owner (R159). -/
def consumeFrame (s : State) : State := s.countSIn PortTotals.addConsumed

/-! ## The owners' rules -/

/-- R79: a consumed DRIVE taken as the guided value. -/
def takeGuided (t : TrainId) (step : Nat) (s : State) : State :=
  let timeout := (s.trainEntry t).guideTimeout
  s.updTrain t fun r =>
    { r with guided := min step Config.maxStep, guideTimer := if timeout = 0 then r.guideTimer else some timeout }

/-- R79: the emergency flag of a consumed DRIVE. -/
def stopGuided (t : TrainId) (s : State) : State :=
  let s := s.updTrain t fun r => { r with guided := 0 }
  if (s.train t).condition.isLocated then
    offerEmergency t (s.updTrain t fun r => { r with step := 0, accumulator := 0, ramp := .none, condition := .stopped })
  else s

/-- R79: a host DRIVE at the Motion Engine. -/
def hostDrive (f : Frame) (s : State) : State :=
  match trainAt s.tables f.dest.toNat (n1 f.payload 0) with
  | none => handOn f s
  | some t =>
    match (s.trainEntry t).mode with
    | .auto => s.dropSIn .guideRefused
    | .guided =>
      let s := takeGuided t (n1 f.payload 2) (consumeFrame s)
      if bitAt f.payload 1 1 then stopGuided t s else s

/-- R45: a host SWITCH at the Interlocking. -/
def hostSwitch (f : Frame) (s : State) : State :=
  match turnoutAt s.tables f.dest.toNat (n1 f.payload 0) with
  | none => handOn f s
  | some u =>
    match (s.turnout u).lock with
    | some t => raise .switchRefused u.val t.val (s.dropSIn .switchRefused)
    | none => handOn f (startThrow u (Position.ofSwitch (at0 f.payload 1)) s)

/-- R140: a host ROTOR at the Rotor Unit. -/
def hostRotor (f : Frame) (s : State) : State :=
  match rotorAt s.tables f.dest.toNat (n1 f.payload 0) with
  | none => handOn f s
  | some r =>
    if n1 f.payload 2 = 0 then consumeFrame (stopRotor r s).2
    else
      let o := startRotor r (n1 f.payload 2) s
      if o.1.isSuccess then consumeFrame o.2 else s.dropSIn .rotorRefused

/-- R126, R127: a host LEVEL at the Lamp Engine. -/
def hostLevel (f : Frame) (s : State) : State :=
  if f.dest = 127 then if anyMapped s.tables then s.dropSIn .broadcast else handOn f s
  else
    let r := adjustPayload f.dest.toNat f.payload s
    handOn { f with payload := r.1 } r.2

/-- R159: a host frame that has passed the screens, by its kind (Table 9-2). -/
def routeHost (f : Frame) (s : State) : State :=
  if f.kind = kindDrive then hostDrive f s
  else if f.kind = kindSwitch then hostSwitch f s
  else if f.kind = kindRotor then hostRotor f s
  else if f.kind = kindLevel then hostLevel f s
  else if f.kind = kindAllStop then consumeFrame (stopAll s)
  else handOn f s

/-- R158, R159: the Pass Filter. -/
def passFilter (f : Frame) (s : State) : State :=
  match screenReason s f with
  | some r => s.dropSIn r
  | none => settle (routeHost f s)

/-! ## S-in -/

/-- R157: a good frame by its SRC and DEST. -/
def classifySIn (f : Frame) (s : State) : State :=
  if f.src ≠ 126 then s.dropSIn .address
  else if f.dest = 0 then if f.kind = kindMgmt then offerIntake f.payload s else s.dropSIn .kind
  else if isFieldAddress f.dest || f.dest = 127 then passFilter f s
  else s.dropSIn .address

/-- R156: a good frame at S-in. -/
def arriveSIn (f : Frame) (s : State) : State := classifySIn f (s.countSIn PortTotals.addGood)

/-- R156: the characters that line idle ended at S-in. -/
def receiveSIn (chars : List Byte) (s : State) : State :=
  match judge chars with
  | .formatError => s.countSIn PortTotals.addFormatError
  | .checkError => s.countSIn PortTotals.addCheckError
  | .good f => arriveSIn f s

/-- A frame of the host. -/
def hostFrame (dest kind : Byte) (payload : List Byte) : Frame := { dest, src := 126, kind, payload }

/-! ## S-out -/

/-- R165: the sent counter of a frame's kind. -/
def SOutCounters.addSent (c : SOutCounters) (kind : Byte) : SOutCounters :=
  if kind = kindReply then { c with replies := c.replies + 1 }
  else if kind = kindEvent then { c with events := c.events + 1 }
  else { c with reports := c.reports + 1 }

/-- R165: S-out completes its frame and takes the next; the Management Unit then takes what it may from the intake (R163). Nothing while
S-out is idle. -/
def completeSOut (s : State) : State :=
  match s.link.transmitting with
  | none => s
  | some f =>
    let s := s.countSOut fun c => c.addSent f.kind
    takeRequests { s with link := { s.link with transmitting := none }.start }

/-! ## The commands -/

/-- S_IN_FRAME (R156). -/
def execSInFrame (chars : List Byte) (s : State) : Host.Outcome State Fault Refusal := .next (receiveSIn chars s)

/-- HOST_DRIVE (R79). -/
def execHostDrive (dest : Byte) (payload : List Byte) (s : State) : Host.Outcome State Fault Refusal :=
  .next (arriveSIn (hostFrame dest kindDrive payload) s)

/-- HOST_SWITCH (R45). -/
def execHostSwitch (dest : Byte) (payload : List Byte) (s : State) : Host.Outcome State Fault Refusal :=
  .next (arriveSIn (hostFrame dest kindSwitch payload) s)

/-- HOST_ROTOR (R140). -/
def execHostRotor (dest : Byte) (payload : List Byte) (s : State) : Host.Outcome State Fault Refusal :=
  .next (arriveSIn (hostFrame dest kindRotor payload) s)

/-- HOST_LEVEL (R126). -/
def execHostLevel (dest : Byte) (payload : List Byte) (s : State) : Host.Outcome State Fault Refusal :=
  .next (arriveSIn (hostFrame dest kindLevel payload) s)

/-- HOST_ALLSTOP (R159). -/
def execHostAllstop (dest : Byte) (payload : List Byte) (s : State) : Host.Outcome State Fault Refusal :=
  .next (arriveSIn (hostFrame dest kindAllStop payload) s)

/-- HOST_SENSE_REQUEST (R159). -/
def execHostSenseRequest (dest : Byte) (payload : List Byte) (s : State) : Host.Outcome State Fault Refusal :=
  .next (arriveSIn (hostFrame dest kindSenseRequest payload) s)

/-- HOST_UNKNOWN_KIND_FRAME (R159). -/
def execHostUnknownKindFrame (dest kind : Byte) (payload : List Byte) (s : State) : Host.Outcome State Fault Refusal :=
  .next (arriveSIn (hostFrame dest kind payload) s)

/-- S_OUT_TRANSMIT_COMPLETE (R165). -/
def execSOutTransmitComplete (s : State) : Host.Outcome State Fault Refusal := .next (completeSOut s)

end Sys2Proof.Machine
end

