-- ==== Sys2Proof/Machine/Dispatch.lean ====
section
/-!
DEFINITION. The dispatch: one arm for each command, each one direct call of that command's meaning.
-/

namespace Sys2Proof.Machine

def exec (i : Instr) (s : State) : Host.Outcome State Fault Refusal :=
  match i with
  | .powerOn => Sys2Proof.Machine.execPowerOn s
  | .startUpLoadComplete => Sys2Proof.Machine.execStartUpLoadComplete s
  | .restoreLoadComplete => Sys2Proof.Machine.execRestoreLoadComplete s
  | .fInFrame chars => Sys2Proof.Machine.execFInFrame chars s
  | .echoReceived payload => Sys2Proof.Machine.execEchoReceived payload s
  | .unclaimedFrame dest kind payload => Sys2Proof.Machine.execUnclaimedFrame dest kind payload s
  | .senseReceived src payload => Sys2Proof.Machine.execSenseReceived src payload s
  | .lightcountReceived src payload => Sys2Proof.Machine.execLightcountReceived src payload s
  | .nodeFaultReceived src payload => Sys2Proof.Machine.execNodeFaultReceived src payload s
  | .sInFrame chars => Sys2Proof.Machine.execSInFrame chars s
  | .hostDrive dest payload => Sys2Proof.Machine.execHostDrive dest payload s
  | .hostSwitch dest payload => Sys2Proof.Machine.execHostSwitch dest payload s
  | .hostRotor dest payload => Sys2Proof.Machine.execHostRotor dest payload s
  | .hostLevel dest payload => Sys2Proof.Machine.execHostLevel dest payload s
  | .hostAllstop dest payload => Sys2Proof.Machine.execHostAllstop dest payload s
  | .hostSenseRequest dest payload => Sys2Proof.Machine.execHostSenseRequest dest payload s
  | .hostUnknownKindFrame dest kind payload => Sys2Proof.Machine.execHostUnknownKindFrame dest kind payload s
  | .unknownRequest payload => Sys2Proof.Machine.execUnknownRequest payload s
  | .identify tag => Sys2Proof.Machine.execIdentify tag s
  | .readTable tag table start count => Sys2Proof.Machine.execReadTable tag table start count s
  | .writeTable tag table start entries => Sys2Proof.Machine.execWriteTable tag table start entries s
  | .readState tag block first count => Sys2Proof.Machine.execReadState tag block first count s
  | .readFlags tag => Sys2Proof.Machine.execReadFlags tag s
  | .writeMask tag mask => Sys2Proof.Machine.execWriteMask tag mask s
  | .readCounters tag group => Sys2Proof.Machine.execReadCounters tag group s
  | .clearCounters tag => Sys2Proof.Machine.execClearCounters tag s
  | .setMode tag mode => Sys2Proof.Machine.execSetMode tag mode s
  | .stopAll tag => Sys2Proof.Machine.execStopAll tag s
  | .dispatch tag train route wait => Sys2Proof.Machine.execDispatch tag train route wait s
  | .cancelRequest tag train => Sys2Proof.Machine.execCancelRequest tag train s
  | .setTrainMode tag train mode => Sys2Proof.Machine.execSetTrainMode tag train mode s
  | .locate tag train blocks => Sys2Proof.Machine.execLocate tag train blocks s
  | .remove tag train => Sys2Proof.Machine.execRemove tag train s
  | .clearHalt tag train => Sys2Proof.Machine.execClearHalt tag train s
  | .reverse tag train => Sys2Proof.Machine.execReverse tag train s
  | .calibrate tag train block step => Sys2Proof.Machine.execCalibrate tag train block step s
  | .cancelCalibration tag train => Sys2Proof.Machine.execCancelCalibration tag train s
  | .turnoutRetry tag turnout => Sys2Proof.Machine.execTurnoutRetry tag turnout s
  | .clearBlock tag block => Sys2Proof.Machine.execClearBlock tag block s
  | .rotorStart tag rotor step => Sys2Proof.Machine.execRotorStart tag rotor step s
  | .rotorStop tag rotor => Sys2Proof.Machine.execRotorStop tag rotor s
  | .rotorHalt tag rotor => Sys2Proof.Machine.execRotorHalt tag rotor s
  | .clearRotor tag rotor => Sys2Proof.Machine.execClearRotor tag rotor s
  | .clockSetJump tag second day => Sys2Proof.Machine.execClockSetJump tag second day s
  | .clockSetSlew tag second day => Sys2Proof.Machine.execClockSetSlew tag second day s
  | .clockRate tag rate => Sys2Proof.Machine.execClockRate tag rate s
  | .cueFire tag cue => Sys2Proof.Machine.execCueFire tag cue s
  | .cueEnable tag cue => Sys2Proof.Machine.execCueEnable tag cue s
  | .cueDisable tag cue => Sys2Proof.Machine.execCueDisable tag cue s
  | .cueResetStamp tag cue => Sys2Proof.Machine.execCueResetStamp tag cue s
  | .store tag => Sys2Proof.Machine.execStore tag s
  | .restore tag => Sys2Proof.Machine.execRestore tag s
  | .restart tag => Sys2Proof.Machine.execRestart tag s
  | .storeWriteDone => Sys2Proof.Machine.execStoreWriteDone s
  | .storeWriteError => Sys2Proof.Machine.execStoreWriteError s
  | .echoIntervalExpiry => Sys2Proof.Machine.execEchoIntervalExpiry s
  | .watchdogExpiry => Sys2Proof.Machine.execWatchdogExpiry s
  | .filterTimerExpiry entry => Sys2Proof.Machine.execFilterTimerExpiry entry s
  | .throwTimerExpiry turnout => Sys2Proof.Machine.execThrowTimerExpiry turnout s
  | .warnTimerExpiry block => Sys2Proof.Machine.execWarnTimerExpiry block s
  | .waitTimerExpiry train => Sys2Proof.Machine.execWaitTimerExpiry train s
  | .motionUpdate => Sys2Proof.Machine.execMotionUpdate s
  | .trainRefreshExpiry train => Sys2Proof.Machine.execTrainRefreshExpiry train s
  | .guideTimerExpiry train => Sys2Proof.Machine.execGuideTimerExpiry train s
  | .dayClockTick => Sys2Proof.Machine.execDayClockTick s
  | .ambientTimerExpiry => Sys2Proof.Machine.execAmbientTimerExpiry s
  | .lampRefresh => Sys2Proof.Machine.execLampRefresh s
  | .staggerTimerExpiry channel => Sys2Proof.Machine.execStaggerTimerExpiry channel s
  | .overrideTimerExpiry channel => Sys2Proof.Machine.execOverrideTimerExpiry channel s
  | .rotorUpdate => Sys2Proof.Machine.execRotorUpdate s
  | .rotorRefreshExpiry rotor => Sys2Proof.Machine.execRotorRefreshExpiry rotor s
  | .windowTimerExpiry cue => Sys2Proof.Machine.execWindowTimerExpiry cue s
  | .holdOffTimerExpiry cue => Sys2Proof.Machine.execHoldOffTimerExpiry cue s
  | .cueEventJudgement => Sys2Proof.Machine.execCueEventJudgement s
  | .fOutTransmitComplete => Sys2Proof.Machine.execFOutTransmitComplete s
  | .sOutTransmitComplete => Sys2Proof.Machine.execSOutTransmitComplete s

end Sys2Proof.Machine
end

