-- ==== Sys2Proof/WellFormed.lean ====
section
/-!
DEFINITION. What makes a command the row it names: a frame's fields within Table 11-1, its addresses those of its row's treatment, and a
management request short enough for one frame. `exec` has a meaning for every command, well formed or not (log entry 21).
-/

namespace Sys2Proof

open Sys2Proof.Machine

/-- The most bytes a payload holds (Table 11-1). -/
def maxPayload : Nat := 48

/-- A payload that one frame can carry. -/
def payloadFits (p : List Byte) : Bool := p.length ≤ maxPayload

/-- An address of a field node (Table 0-1). -/
def isNode (a : Byte) : Bool := 1 ≤ a.toNat && a.toNat ≤ 96

/-- A destination that S-in hands to the Pass Filter (R157). -/
def isFieldDest (a : Byte) : Bool := isNode a || a = 127

/-- The kind codes of Table 11-2. -/
def knownKinds : List Byte :=
  [kindEcho, kindDrive, kindAllStop, kindLevel, kindSwitch, kindRotor, kindSenseRequest, kindSense, kindLightcount, kindNodeFault, kindMgmt,
    kindReply, kindEvent]

/-- A management request that one frame can carry. -/
def requestFits (r : Request) : Bool := payloadFits (requestPayload 0 r)

/-- A payload that no request of Table 11-3 has: too short, of an unknown code, or of arguments the code does not call for (R167). -/
def isNoRequest : List Byte → Bool
  | tag :: code :: args =>
    payloadFits (tag :: code :: args) && (!knownRequestCode code || (requestOf code args).isNone)
  | _ => true

/-- Well-formed commands. -/
def Instr.wellFormed : Instr → Bool
  | .powerOn => true
  | .startUpLoadComplete => true
  | .restoreLoadComplete => true
  | .fInFrame _ => true
  | .echoReceived payload => payloadFits payload
  | .unclaimedFrame dest kind payload => isNode dest && kind ≠ kindEcho && payloadFits payload
  | .senseReceived src payload => isNode src && payloadFits payload
  | .lightcountReceived src payload => isNode src && payloadFits payload
  | .nodeFaultReceived src payload => isNode src && payloadFits payload
  | .sInFrame _ => true
  | .hostDrive dest payload => isFieldDest dest && payloadFits payload
  | .hostSwitch dest payload => isFieldDest dest && payloadFits payload
  | .hostRotor dest payload => isFieldDest dest && payloadFits payload
  | .hostLevel dest payload => isFieldDest dest && payloadFits payload
  | .hostAllstop dest payload => isFieldDest dest && payloadFits payload
  | .hostSenseRequest dest payload => isFieldDest dest && payloadFits payload
  | .hostUnknownKindFrame dest kind payload => isFieldDest dest && !knownKinds.contains kind && payloadFits payload
  | .unknownRequest payload => isNoRequest payload
  | .identify _ => requestFits .identify
  | .readTable _ table start count => requestFits (.readTable table start count)
  | .writeTable _ table start entries => requestFits (.writeTable table start entries)
  | .readState _ block first count => requestFits (.readState block first count)
  | .readFlags _ => requestFits .readFlags
  | .writeMask _ mask => requestFits (.writeMask mask)
  | .readCounters _ group => requestFits (.readCounters group)
  | .clearCounters _ => requestFits .clearCounters
  | .setMode _ mode => requestFits (.setMode mode)
  | .stopAll _ => requestFits .stopAll
  | .dispatch _ train route wait => requestFits (.dispatch train route wait)
  | .cancelRequest _ train => requestFits (.cancelRequest train)
  | .setTrainMode _ train mode => requestFits (.setTrainMode train mode)
  | .locate _ train blocks => requestFits (.locate train blocks)
  | .remove _ train => requestFits (.remove train)
  | .clearHalt _ train => requestFits (.clearHalt train)
  | .reverse _ train => requestFits (.reverse train)
  | .calibrate _ train block step => requestFits (.calibrate train block step)
  | .cancelCalibration _ train => requestFits (.cancelCalibration train)
  | .turnoutRetry _ turnout => requestFits (.turnoutRetry turnout)
  | .clearBlock _ block => requestFits (.clearBlock block)
  | .rotorStart _ rotor step => requestFits (.rotorStart rotor step)
  | .rotorStop _ rotor => requestFits (.rotorStop rotor)
  | .rotorHalt _ rotor => requestFits (.rotorHalt rotor)
  | .clearRotor _ rotor => requestFits (.clearRotor rotor)
  | .clockSetJump _ second day => requestFits (.clockSet second day 0)
  | .clockSetSlew _ second day => requestFits (.clockSet second day 1)
  | .clockRate _ rate => requestFits (.clockRate rate)
  | .cueFire _ cue => requestFits (.cueFire cue)
  | .cueEnable _ cue => requestFits (.cueEnable cue)
  | .cueDisable _ cue => requestFits (.cueDisable cue)
  | .cueResetStamp _ cue => requestFits (.cueResetStamp cue)
  | .store _ => requestFits .store
  | .restore _ => requestFits .restore
  | .restart _ => requestFits .restart
  | .storeWriteDone => true
  | .storeWriteError => true
  | .echoIntervalExpiry => true
  | .watchdogExpiry => true
  | .filterTimerExpiry _ => true
  | .throwTimerExpiry _ => true
  | .warnTimerExpiry _ => true
  | .waitTimerExpiry _ => true
  | .motionUpdate => true
  | .trainRefreshExpiry _ => true
  | .guideTimerExpiry _ => true
  | .dayClockTick => true
  | .ambientTimerExpiry => true
  | .lampRefresh => true
  | .staggerTimerExpiry _ => true
  | .overrideTimerExpiry _ => true
  | .rotorUpdate => true
  | .rotorRefreshExpiry _ => true
  | .windowTimerExpiry _ => true
  | .holdOffTimerExpiry _ => true
  | .cueEventJudgement => true
  | .fOutTransmitComplete => true
  | .sOutTransmitComplete => true

end Sys2Proof
end

