-- ==== Sys2Proof/Machine/Wire.lean ====
section
/-!
DEFINITION. Commands as frames: the request that a management command carries, and the frame whose arrival a command is (log entries 2 and 3).
-/

namespace Sys2Proof.Machine

/-- The tag and the request of a management command. -/
def requestOfCommand : Instr → Option (Byte × Request)
  | .powerOn => none
  | .startUpLoadComplete => none
  | .restoreLoadComplete => none
  | .fInFrame _ => none
  | .echoReceived _ => none
  | .unclaimedFrame _ _ _ => none
  | .senseReceived _ _ => none
  | .lightcountReceived _ _ => none
  | .nodeFaultReceived _ _ => none
  | .sInFrame _ => none
  | .hostDrive _ _ => none
  | .hostSwitch _ _ => none
  | .hostRotor _ _ => none
  | .hostLevel _ _ => none
  | .hostAllstop _ _ => none
  | .hostSenseRequest _ _ => none
  | .hostUnknownKindFrame _ _ _ => none
  | .unknownRequest _ => none
  | .identify tag => some (tag, .identify)
  | .readTable tag table start count => some (tag, .readTable table start count)
  | .writeTable tag table start entries => some (tag, .writeTable table start entries)
  | .readState tag block first count => some (tag, .readState block first count)
  | .readFlags tag => some (tag, .readFlags)
  | .writeMask tag mask => some (tag, .writeMask mask)
  | .readCounters tag group => some (tag, .readCounters group)
  | .clearCounters tag => some (tag, .clearCounters)
  | .setMode tag mode => some (tag, .setMode mode)
  | .stopAll tag => some (tag, .stopAll)
  | .dispatch tag train route wait => some (tag, .dispatch train route wait)
  | .cancelRequest tag train => some (tag, .cancelRequest train)
  | .setTrainMode tag train mode => some (tag, .setTrainMode train mode)
  | .locate tag train blocks => some (tag, .locate train blocks)
  | .remove tag train => some (tag, .remove train)
  | .clearHalt tag train => some (tag, .clearHalt train)
  | .reverse tag train => some (tag, .reverse train)
  | .calibrate tag train block step => some (tag, .calibrate train block step)
  | .cancelCalibration tag train => some (tag, .cancelCalibration train)
  | .turnoutRetry tag turnout => some (tag, .turnoutRetry turnout)
  | .clearBlock tag block => some (tag, .clearBlock block)
  | .rotorStart tag rotor step => some (tag, .rotorStart rotor step)
  | .rotorStop tag rotor => some (tag, .rotorStop rotor)
  | .rotorHalt tag rotor => some (tag, .rotorHalt rotor)
  | .clearRotor tag rotor => some (tag, .clearRotor rotor)
  | .clockSetJump tag second day => some (tag, .clockSet second day 0)
  | .clockSetSlew tag second day => some (tag, .clockSet second day 1)
  | .clockRate tag rate => some (tag, .clockRate rate)
  | .cueFire tag cue => some (tag, .cueFire cue)
  | .cueEnable tag cue => some (tag, .cueEnable cue)
  | .cueDisable tag cue => some (tag, .cueDisable cue)
  | .cueResetStamp tag cue => some (tag, .cueResetStamp cue)
  | .store tag => some (tag, .store)
  | .restore tag => some (tag, .restore)
  | .restart tag => some (tag, .restart)
  | .storeWriteDone => none
  | .storeWriteError => none
  | .echoIntervalExpiry => none
  | .watchdogExpiry => none
  | .filterTimerExpiry _ => none
  | .throwTimerExpiry _ => none
  | .warnTimerExpiry _ => none
  | .waitTimerExpiry _ => none
  | .motionUpdate => none
  | .trainRefreshExpiry _ => none
  | .guideTimerExpiry _ => none
  | .dayClockTick => none
  | .ambientTimerExpiry => none
  | .lampRefresh => none
  | .staggerTimerExpiry _ => none
  | .overrideTimerExpiry _ => none
  | .rotorUpdate => none
  | .rotorRefreshExpiry _ => none
  | .windowTimerExpiry _ => none
  | .holdOffTimerExpiry _ => none
  | .cueEventJudgement => none
  | .fOutTransmitComplete => none
  | .sOutTransmitComplete => none

/-- The frame whose arrival at F-in a command is. -/
def fieldFrame : Instr → Option Frame
  | .powerOn => none
  | .startUpLoadComplete => none
  | .restoreLoadComplete => none
  | .fInFrame _ => none
  | .echoReceived payload => some { dest := 0, src := 0, kind := kindEcho, payload }
  | .unclaimedFrame dest kind payload => some { dest, src := 0, kind, payload }
  | .senseReceived src payload => some { dest := 0, src, kind := kindSense, payload }
  | .lightcountReceived src payload => some { dest := 0, src, kind := kindLightcount, payload }
  | .nodeFaultReceived src payload => some { dest := 0, src, kind := kindNodeFault, payload }
  | .sInFrame _ => none
  | .hostDrive _ _ => none
  | .hostSwitch _ _ => none
  | .hostRotor _ _ => none
  | .hostLevel _ _ => none
  | .hostAllstop _ _ => none
  | .hostSenseRequest _ _ => none
  | .hostUnknownKindFrame _ _ _ => none
  | .unknownRequest _ => none
  | .identify _ => none
  | .readTable _ _ _ _ => none
  | .writeTable _ _ _ _ => none
  | .readState _ _ _ _ => none
  | .readFlags _ => none
  | .writeMask _ _ => none
  | .readCounters _ _ => none
  | .clearCounters _ => none
  | .setMode _ _ => none
  | .stopAll _ => none
  | .dispatch _ _ _ _ => none
  | .cancelRequest _ _ => none
  | .setTrainMode _ _ _ => none
  | .locate _ _ _ => none
  | .remove _ _ => none
  | .clearHalt _ _ => none
  | .reverse _ _ => none
  | .calibrate _ _ _ _ => none
  | .cancelCalibration _ _ => none
  | .turnoutRetry _ _ => none
  | .clearBlock _ _ => none
  | .rotorStart _ _ _ => none
  | .rotorStop _ _ => none
  | .rotorHalt _ _ => none
  | .clearRotor _ _ => none
  | .clockSetJump _ _ _ => none
  | .clockSetSlew _ _ _ => none
  | .clockRate _ _ => none
  | .cueFire _ _ => none
  | .cueEnable _ _ => none
  | .cueDisable _ _ => none
  | .cueResetStamp _ _ => none
  | .store _ => none
  | .restore _ => none
  | .restart _ => none
  | .storeWriteDone => none
  | .storeWriteError => none
  | .echoIntervalExpiry => none
  | .watchdogExpiry => none
  | .filterTimerExpiry _ => none
  | .throwTimerExpiry _ => none
  | .warnTimerExpiry _ => none
  | .waitTimerExpiry _ => none
  | .motionUpdate => none
  | .trainRefreshExpiry _ => none
  | .guideTimerExpiry _ => none
  | .dayClockTick => none
  | .ambientTimerExpiry => none
  | .lampRefresh => none
  | .staggerTimerExpiry _ => none
  | .overrideTimerExpiry _ => none
  | .rotorUpdate => none
  | .rotorRefreshExpiry _ => none
  | .windowTimerExpiry _ => none
  | .holdOffTimerExpiry _ => none
  | .cueEventJudgement => none
  | .fOutTransmitComplete => none
  | .sOutTransmitComplete => none

/-- The frame whose arrival at S-in a command is. -/
def showFrame : Instr → Option Frame
  | .powerOn => none
  | .startUpLoadComplete => none
  | .restoreLoadComplete => none
  | .fInFrame _ => none
  | .echoReceived _ => none
  | .unclaimedFrame _ _ _ => none
  | .senseReceived _ _ => none
  | .lightcountReceived _ _ => none
  | .nodeFaultReceived _ _ => none
  | .sInFrame _ => none
  | .hostDrive dest payload => some (hostFrame dest kindDrive payload)
  | .hostSwitch dest payload => some (hostFrame dest kindSwitch payload)
  | .hostRotor dest payload => some (hostFrame dest kindRotor payload)
  | .hostLevel dest payload => some (hostFrame dest kindLevel payload)
  | .hostAllstop dest payload => some (hostFrame dest kindAllStop payload)
  | .hostSenseRequest dest payload => some (hostFrame dest kindSenseRequest payload)
  | .hostUnknownKindFrame dest kind payload => some (hostFrame dest kind payload)
  | .unknownRequest payload => some (hostFrame 0 kindMgmt payload)
  | .identify tag => some (hostFrame 0 kindMgmt (requestPayload tag .identify))
  | .readTable tag table start count => some (hostFrame 0 kindMgmt (requestPayload tag (.readTable table start count)))
  | .writeTable tag table start entries => some (hostFrame 0 kindMgmt (requestPayload tag (.writeTable table start entries)))
  | .readState tag block first count => some (hostFrame 0 kindMgmt (requestPayload tag (.readState block first count)))
  | .readFlags tag => some (hostFrame 0 kindMgmt (requestPayload tag .readFlags))
  | .writeMask tag mask => some (hostFrame 0 kindMgmt (requestPayload tag (.writeMask mask)))
  | .readCounters tag group => some (hostFrame 0 kindMgmt (requestPayload tag (.readCounters group)))
  | .clearCounters tag => some (hostFrame 0 kindMgmt (requestPayload tag .clearCounters))
  | .setMode tag mode => some (hostFrame 0 kindMgmt (requestPayload tag (.setMode mode)))
  | .stopAll tag => some (hostFrame 0 kindMgmt (requestPayload tag .stopAll))
  | .dispatch tag train route wait => some (hostFrame 0 kindMgmt (requestPayload tag (.dispatch train route wait)))
  | .cancelRequest tag train => some (hostFrame 0 kindMgmt (requestPayload tag (.cancelRequest train)))
  | .setTrainMode tag train mode => some (hostFrame 0 kindMgmt (requestPayload tag (.setTrainMode train mode)))
  | .locate tag train blocks => some (hostFrame 0 kindMgmt (requestPayload tag (.locate train blocks)))
  | .remove tag train => some (hostFrame 0 kindMgmt (requestPayload tag (.remove train)))
  | .clearHalt tag train => some (hostFrame 0 kindMgmt (requestPayload tag (.clearHalt train)))
  | .reverse tag train => some (hostFrame 0 kindMgmt (requestPayload tag (.reverse train)))
  | .calibrate tag train block step => some (hostFrame 0 kindMgmt (requestPayload tag (.calibrate train block step)))
  | .cancelCalibration tag train => some (hostFrame 0 kindMgmt (requestPayload tag (.cancelCalibration train)))
  | .turnoutRetry tag turnout => some (hostFrame 0 kindMgmt (requestPayload tag (.turnoutRetry turnout)))
  | .clearBlock tag block => some (hostFrame 0 kindMgmt (requestPayload tag (.clearBlock block)))
  | .rotorStart tag rotor step => some (hostFrame 0 kindMgmt (requestPayload tag (.rotorStart rotor step)))
  | .rotorStop tag rotor => some (hostFrame 0 kindMgmt (requestPayload tag (.rotorStop rotor)))
  | .rotorHalt tag rotor => some (hostFrame 0 kindMgmt (requestPayload tag (.rotorHalt rotor)))
  | .clearRotor tag rotor => some (hostFrame 0 kindMgmt (requestPayload tag (.clearRotor rotor)))
  | .clockSetJump tag second day => some (hostFrame 0 kindMgmt (requestPayload tag (.clockSet second day 0)))
  | .clockSetSlew tag second day => some (hostFrame 0 kindMgmt (requestPayload tag (.clockSet second day 1)))
  | .clockRate tag rate => some (hostFrame 0 kindMgmt (requestPayload tag (.clockRate rate)))
  | .cueFire tag cue => some (hostFrame 0 kindMgmt (requestPayload tag (.cueFire cue)))
  | .cueEnable tag cue => some (hostFrame 0 kindMgmt (requestPayload tag (.cueEnable cue)))
  | .cueDisable tag cue => some (hostFrame 0 kindMgmt (requestPayload tag (.cueDisable cue)))
  | .cueResetStamp tag cue => some (hostFrame 0 kindMgmt (requestPayload tag (.cueResetStamp cue)))
  | .store tag => some (hostFrame 0 kindMgmt (requestPayload tag .store))
  | .restore tag => some (hostFrame 0 kindMgmt (requestPayload tag .restore))
  | .restart tag => some (hostFrame 0 kindMgmt (requestPayload tag .restart))
  | .storeWriteDone => none
  | .storeWriteError => none
  | .echoIntervalExpiry => none
  | .watchdogExpiry => none
  | .filterTimerExpiry _ => none
  | .throwTimerExpiry _ => none
  | .warnTimerExpiry _ => none
  | .waitTimerExpiry _ => none
  | .motionUpdate => none
  | .trainRefreshExpiry _ => none
  | .guideTimerExpiry _ => none
  | .dayClockTick => none
  | .ambientTimerExpiry => none
  | .lampRefresh => none
  | .staggerTimerExpiry _ => none
  | .overrideTimerExpiry _ => none
  | .rotorUpdate => none
  | .rotorRefreshExpiry _ => none
  | .windowTimerExpiry _ => none
  | .holdOffTimerExpiry _ => none
  | .cueEventJudgement => none
  | .fOutTransmitComplete => none
  | .sOutTransmitComplete => none

/-- A frame within the limits of Table 11-1. -/
def Frame.inLimits (f : Frame) : Prop := f.dest.toNat ≤ 127 ∧ f.src.toNat ≤ 127 ∧ f.payload.length ≤ 48

end Sys2Proof.Machine
end

