-- ==== Sys2Proof/Machine/Parts.lean ====
section
/-!
DEFINITION. The parts of the state that a statement's frame names: each piece a block keeps, so that "nothing else changes" can be said once.
-/

namespace Sys2Proof.Machine

/-- A piece of the state. Together the pieces are the whole state. -/
inductive Part where
  | trainTable | otherTables | output | missing | loop | sIn | sInDrops | fIn | fInDrops | fOut | sOut | blockCounters
  | entries | views | indications | blocks | turnouts | paths | queue | serviceDue | motionTimer | trains | clock | channels | lampCycle
  | rotorTimer | rotors | cues | events | link | mode | intake | report | store | now | pending
  deriving DecidableEq, Repr

/-- What a piece holds. -/
def Part.type : Part → Type
  | .trainTable => Vector TrainEntry 8
  | .otherTables => Tables
  | .output => FieldPort
  | .missing => BitVec 96
  | .loop => LoopMonitor
  | .sIn => PortTotals
  | .sInDrops => Vector Counter 11
  | .fIn => PortTotals
  | .fInDrops => Vector Counter 7
  | .fOut => FOutCounters
  | .sOut => SOutCounters
  | .blockCounters => BlockCounters
  | .entries => Vector SensorState 128
  | .views => Vector BlockView 48
  | .indications => Vector Indication 16
  | .blocks => Vector BlockState 48
  | .turnouts => Vector TurnoutState 16
  | .paths => Vector TrainPath 8
  | .queue => List RouteRequest
  | .serviceDue => Bool
  | .motionTimer => Timer
  | .trains => Vector TrainRecord 8
  | .clock => DayClock
  | .channels => Vector ChannelState 192
  | .lampCycle => Nat × Nat × Timer
  | .rotorTimer => Timer
  | .rotors => Vector RotorRecord 4
  | .cues => Vector CueProgress 64
  | .events => List CueEvent
  | .link => ShowLink
  | .mode => PartMode
  | .intake => List (List Byte)
  | .report => ReportUnit
  | .store => SettingsStore
  | .now => Nat
  | .pending => List Instr

/-- The value of a piece. `otherTables` leaves out the Train Table, which is a piece of its own; `output` is F-out with its queues, without
the Missing Node List. -/
def State.get (s : State) : (p : Part) → p.type
  | .trainTable => s.tables.trains
  | .otherTables => { s.tables with trains := Vector.replicate 8 defaultTrain }
  | .output => { s.field with missing := 0 }
  | .missing => s.field.missing
  | .loop => s.loop
  | .sIn => s.counters.sIn
  | .sInDrops => s.counters.sInDrops
  | .fIn => s.counters.fIn
  | .fInDrops => s.counters.fInDrops
  | .fOut => s.counters.fOut
  | .sOut => s.counters.sOut
  | .blockCounters => s.counters.block
  | .entries => s.filter.entries
  | .views => s.filter.blocks
  | .indications => s.filter.turnouts
  | .blocks => s.interlock.blocks
  | .turnouts => s.interlock.turnouts
  | .paths => s.interlock.paths
  | .queue => s.interlock.queue
  | .serviceDue => s.interlock.serviceDue
  | .motionTimer => s.motion.updateTimer
  | .trains => s.motion.trains
  | .clock => s.clock
  | .channels => s.lamps.channels
  | .lampCycle => (s.lamps.flashCount, s.lamps.restatementCount, s.lamps.refreshTimer)
  | .rotorTimer => s.rotors.updateTimer
  | .rotors => s.rotors.rotors
  | .cues => s.cues.progress
  | .events => s.cues.pendingEvents
  | .link => s.link
  | .mode => s.mgmt.mode
  | .intake => s.mgmt.intake
  | .report => s.report
  | .store => s.store
  | .now => s.now
  | .pending => s.pending

/-- The second state differs from the first in the listed pieces at most. -/
def OnlyChanges (ps : List Part) (s t : State) : Prop := ∀ p, p ∉ ps → t.get p = s.get p

end Sys2Proof.Machine
end

