-- ==== Sys2Proof/Safety.lean ====
section
/-!
DEFINITION. What a sound state of the part is, in the terms of the manual's own invariants: the counting law of the ports, the capacities of
the queues, and the conditions under which anything may move.
-/

namespace Sys2Proof.Machine

/-- R19, R162: good frames are the sum of forwarded, consumed and dropped, modulo 2^32. -/
def PortTotals.balanced (p : PortTotals) : Prop := p.good = p.forwarded + p.consumed + p.dropped

/-- R19, R162: each dropped frame has increased exactly one drop-reason counter. -/
def Counters.reasonsAgree (c : Counters) : Prop :=
  c.sInDrops.toList.sum = c.sIn.dropped ∧ c.fInDrops.toList.sum = c.fIn.dropped

/-- The counting law of both receiving ports. -/
def Counters.lawful (c : Counters) : Prop := c.sIn.balanced ∧ c.fIn.balanced ∧ c.reasonsAgree

/-- R9 to R11, R13: one frame for each key, at most 20 LEVEL frames, and no queue to F-out over its capacity. -/
def FieldPort.fits (p : FieldPort) : Prop :=
  (p.urgent.map Prod.fst).Nodup ∧ (p.engine.map Prod.fst).Nodup
    ∧ (p.engine.filter fun e => e.1.isLevel).length ≤ Config.engineLevelCapacity ∧ p.pass.length ≤ Config.passCapacity

/-- R14: F-out is idle only while nothing waits for it. -/
def FieldPort.busy (p : FieldPort) : Prop := p.transmitting = none → p.urgent = [] ∧ p.engine = [] ∧ p.pass = []

/-- R163, R164: at most 4 REPLY frames and 28 others wait. -/
def State.upstreamFits (s : State) : Prop :=
  s.repliesWaiting ≤ Config.replyCapacity ∧ s.othersWaiting ≤ Config.upstreamOtherCapacity

/-- R157, R166: at most 4 requests wait in the intake. -/
def Management.fits (m : Management) : Prop := m.intake.length ≤ Config.intakeCapacity

/-- R144: at most 32 events wait. -/
def CueEngine.fits (c : CueEngine) : Prop := c.pendingEvents.length ≤ Config.cuePendingCapacity

/-- R52: at most one pending request for each train. -/
def Interlocking.oneRequestEach (i : Interlocking) : Prop := (i.queue.map RouteRequest.train).Nodup

/-- Every queue within its capacity. -/
def State.queuesFit (s : State) : Prop :=
  s.field.fits ∧ s.upstreamFits ∧ s.mgmt.fits ∧ s.cues.fits ∧ s.interlock.oneRequestEach

/-! ## Motion -/

/-- R72, R76: no train is permitted a step, and none has one, while the part mode or the ring does not allow motion. -/
def State.permissionHeld (s : State) : Prop := motionPermitted s = false → ∀ t, (s.train t).permitted = 0 ∧ (s.train t).step = 0

/-- R76: a train whose step exceeds its permitted step is in BRAKING. -/
def State.excessBrakes (s : State) : Prop := ∀ t, (s.train t).permitted < (s.train t).step → (s.train t).condition = .braking

/-- Table 4-3: only a RUNNING or BRAKING train has a step. -/
def State.stillTrainsStand (s : State) : Prop :=
  ∀ t, (s.train t).condition ≠ .running → (s.train t).condition ≠ .braking → (s.train t).step = 0

/-- R139: a rotor's step is 0 in UNHOMED, STOPPED and HALTED, and it is RUNNING or HOMING only in RUN with the ring QUALIFIED. -/
def State.rotorsSafe (s : State) : Prop :=
  ∀ r, ((s.rotor r).condition.isTurning = false → (s.rotor r).step = 0)
    ∧ ((s.rotor r).condition = .running ∨ (s.rotor r).condition = .homing → s.mode = .run ∧ s.qualified = true)

/-- What every step keeps of the things that may move. -/
def State.motionSafe (s : State) : Prop := s.permissionHeld ∧ s.excessBrakes ∧ s.stillTrainsStand ∧ s.rotorsSafe

/-! ## Track -/

/-- R37: a block names a train as holder exactly when it stands in the train's occupied or reserved list, with the role of that list. -/
def State.holdersAgree (s : State) : Prop :=
  ∀ b t, ((s.block b).holding = some (t, .occupied) ↔ b ∈ (s.path t).occupied)
    ∧ ((s.block b).holding = some (t, .reserved) ↔ b ∈ (s.path t).reserved)

/-- R46: no list of a path holds a block twice, and no list is over its size. -/
def State.listsFit (s : State) : Prop :=
  ∀ t, (s.path t).occupied.Nodup ∧ (s.path t).reserved.Nodup
    ∧ (s.path t).occupied.length ≤ Config.maxOccupied ∧ (s.path t).reserved.length ≤ Config.maxReserved

/-- R52, R62: only a train in STOPPED, RUNNING or BRAKING has reserved blocks or a pending request. -/
def State.claimsLocated (s : State) : Prop :=
  (∀ t, (s.train t).condition.isLocated = false → (s.path t).reserved = [])
    ∧ ∀ q ∈ s.interlock.queue, (s.train q.train).condition.isLocated = true

/-- R49: each authorised count is the count that the lists, turnouts and crossings give. -/
def State.authorityAgrees (s : State) : Prop := ∀ t, (s.path t).authorised = authorisedCount s t

/-- R51: no route names a block twice. -/
def Tables.routesSound (ts : Tables) : Prop := ∀ r : RouteId, ts.routes[r].blocks.Nodup

/-- The tables in force, the stored image and a copy being stored hold sound routes. -/
def State.routesSound (s : State) : Prop :=
  s.tables.routesSound ∧ s.store.image.tables.routesSound ∧ ∀ ts, s.store.writing = some ts → ts.routesSound

/-- What every step keeps of the track: at most one train to a block, and no authority beyond what R49 gives. -/
def State.trackSafe (s : State) : Prop :=
  s.holdersAgree ∧ s.listsFit ∧ s.claimsLocated ∧ s.authorityAgrees ∧ s.routesSound

/-! ## Sensors -/

/-- Section 2.2: a FRESH entry whose timer is stopped has raw and filtered equal; a running timer stands on a FRESH entry whose two states
differ. -/
def State.filtersAgree (s : State) : Prop :=
  ∀ e, ((s.sensor e).fresh = true → (s.sensor e).timer = none → (s.sensor e).raw = (s.sensor e).filtered)
    ∧ ((s.sensor e).timer.isSome = true → (s.sensor e).fresh = true ∧ (s.sensor e).raw ≠ (s.sensor e).filtered)

/-- R30, R32: the held detections and indications are those that the entries give. -/
def State.viewsAgree (s : State) : Prop :=
  (∀ b, s.view b = deriveBlock s.tables s.filter.entries b)
    ∧ ∀ u : TurnoutId, s.filter.turnouts[u] = deriveTurnout s.tables s.filter.entries u

/-! ## Between commands -/

/-- Nothing is due between commands: the Route Queue has been served (R47, R53), and HOLDING lasts only while some step is above 0 (R82). -/
def State.settled (s : State) : Prop := s.interlock.serviceDue = false ∧ (s.mode = .holding → allStepsZero s = false)

/-- STARTING lasts exactly as long as a load (Table 10-2, R174, R176). -/
def State.startingIsLoading (s : State) : Prop := s.mode = .starting ↔ s.store.loading.isSome = true

/-! ## Management requests -/

/-- The state in which a management request is executed on its arrival (R163, R166, R167): the part mode is past STARTING, no request waits
before it, and fewer than 4 replies wait. The last two clauses hold of every reachable state. -/
def State.ready (s : State) : Prop :=
  s.mgmt.intake = [] ∧ s.repliesWaiting < Config.replyCapacity ∧ s.mode ≠ .starting ∧ s.settled ∧ s.stillTrainsStand

/-- A management frame counted at S-in as good and as consumed (R157, R162). -/
def State.received (s : State) : State :=
  { s with
    counters := { s.counters with
      sIn := { s.counters.sIn with good := s.counters.sIn.good + 1, consumed := s.counters.sIn.consumed + 1 } } }

/-! ## After a reset -/

/-- What every reset ends with, under the tables in force: part mode HOLD, the sensors, the track, the trains, the rotors and the cues at their
values after a reset, the clock's rate, sky and ambient level from the tables, and the timers of the end of STARTING running (R2, R23, R37,
R39, R46, R52, R68, R94, R107, R110, R131, R143, Table 10-2). -/
def State.freshlyHeld (t : State) : Prop :=
  t.mode = .hold ∧ t.store.loading = none ∧ t.filter = InputFilter.initial ∧ t.interlock = Interlocking.initial
    ∧ t.motion.updateTimer = some 20
    ∧ (∀ x, t.train x = { TrainRecord.initial (t.trainEntry x) with
        refreshTimer := if (t.trainEntry x).enabled then some 1000 else none })
    ∧ t.rotors.updateTimer = some 20
    ∧ (∀ r, t.rotor r = { RotorRecord.initial with refreshTimer := if (t.rotorEntry r).enabled then some 1000 else none })
    ∧ (∀ k, t.cue k = CueProgress.initial (t.cueEntry k)) ∧ t.cues.pendingEvents = []
    ∧ t.loop.intervalTimer = some t.tables.loop.echoInterval ∧ t.loop.watchdog = some (2 * t.tables.loop.echoInterval)
    ∧ t.clock = { t.clock with
        rate := t.tables.clock.startRate, fraction := 0, slew := none, sky := skyLevel t.tables.sky (t.clock.virtualTime / 1000)
        ambient := t.tables.clock.ambientDefault, lastRatio := 0, lastCurve := 0, ambientStale := false, tickTimer := some 1
        ambientTimer := if t.tables.clock.ambientNode = 0 then none else some (t.tables.clock.ambientTimeout * 1000) }
    ∧ t.lamps.refreshTimer = some 40

end Sys2Proof.Machine
end

