-- ==== Sys2Proof/Certificates/Slice0/Obligations.lean ====
section
/-!
DEFINITION. The statements for the provers. Each says in its docstring which rules of the manual it formalises; where it rests on a choice of
the model, the docstring names the log entry. The invariants and `State.ready` are defined in Safety.lean, the pieces of the state that a
frame names in Machine/Parts.lean.
-/

open Sys2Proof Sys2Proof.Machine

/-! ## The machine -/

/-- A step runs the command at the front of the queue on everything else; with no command waiting the part idles (log entry 10). -/
def Obligations.StepTakesTheFrontCommand : Prop :=
  (∀ (c : Instr) (s : State), step (s.withCommand c) = exec c s) ∧ ∀ s : State, s.pending = [] → step s = .next s

/-- Every command, well-formed or not, is carried out in every state, and none changes the queue of commands that wait (log entry 21). -/
def Obligations.EveryCommandLeavesTheCommandQueue : Prop :=
  ∀ (c : Instr) (s : State), ∃ t : State, exec c s = .next t ∧ t.pending = s.pending

/-- Log entry 4: the expiry of a timer that is stopped, the end of a transmission, load or store operation that is not under way, and the
judgement of an empty pending list change nothing. -/
def Obligations.WhatIsNotUnderWayDoesNotEnd : Prop :=
  ∀ s : State,
    (s.loop.intervalTimer = none → exec .echoIntervalExpiry s = .next s)
      ∧ (s.loop.watchdog = none → exec .watchdogExpiry s = .next s)
      ∧ (∀ e, (s.sensor e).timer = none → exec (.filterTimerExpiry e) s = .next s)
      ∧ (∀ u, (s.turnout u).throwTimer = none → exec (.throwTimerExpiry u) s = .next s)
      ∧ (∀ b, (s.block b).warnTimer = none → exec (.warnTimerExpiry b) s = .next s)
      ∧ (∀ t, (∀ q ∈ s.interlock.queue, q.train = t → q.waitTimer = none) → exec (.waitTimerExpiry t) s = .next s)
      ∧ (s.motion.updateTimer = none → exec .motionUpdate s = .next s)
      ∧ (∀ t, (s.train t).refreshTimer = none → exec (.trainRefreshExpiry t) s = .next s)
      ∧ (∀ t, (s.train t).guideTimer = none → exec (.guideTimerExpiry t) s = .next s)
      ∧ (s.clock.tickTimer = none → exec .dayClockTick s = .next s)
      ∧ (s.clock.ambientTimer = none → exec .ambientTimerExpiry s = .next s)
      ∧ (s.lamps.refreshTimer = none → exec .lampRefresh s = .next s)
      ∧ (∀ c, (s.channel c).staggerTimer = none → exec (.staggerTimerExpiry c) s = .next s)
      ∧ (∀ c, (s.channel c).overrideTimer = none → exec (.overrideTimerExpiry c) s = .next s)
      ∧ (s.rotors.updateTimer = none → exec .rotorUpdate s = .next s)
      ∧ (∀ r, (s.rotor r).refreshTimer = none → exec (.rotorRefreshExpiry r) s = .next s)
      ∧ (∀ k, (s.cue k).windowTimer = none → exec (.windowTimerExpiry k) s = .next s)
      ∧ (∀ k, (s.cue k).holdOffTimer = none → exec (.holdOffTimerExpiry k) s = .next s)
      ∧ (s.cues.pendingEvents = [] → exec .cueEventJudgement s = .next s)
      ∧ (s.field.transmitting = none → exec .fOutTransmitComplete s = .next s)
      ∧ (s.link.transmitting = none → exec .sOutTransmitComplete s = .next s)
      ∧ (s.store.writing = none → exec .storeWriteDone s = .next s ∧ exec .storeWriteError s = .next s)
      ∧ (s.store.loading ≠ some .startUp → exec .startUpLoadComplete s = .next s)
      ∧ (s.store.loading ≠ some .restore → exec .restoreLoadComplete s = .next s)

/-! ## Formats (Chapter 11) -/

/-- R178: the characters of a frame within the limits of Table 11-1, its CHECK formed over DEST through PAYLOAD, pass every test of a
receiving port and give the frame back. R180, Table 11-3: each of the 34 request codes with arguments of its length spells its request, and
the code and the arguments of a request are the only ones that spell it. R40, R75, R83, R137, R6, R7, Table 11-2: the part's own DRIVE,
SWITCH, ROTOR, ALLSTOP and SENSE_REQUEST, byte by byte. -/
def Obligations.FramesAndRequestsAreSpelledBack : Prop :=
  (∀ f : Frame, f.inLimits → judge f.wire = .good f)
    ∧ (∀ r : Request, knownRequestCode (requestCode r) = true ∧ requestOf (requestCode r) (requestArgs r) = some r)
    ∧ (∀ (code : Byte) (args : List Byte) (r : Request), requestOf code args = some r → requestCode r = code ∧ requestArgs r = args)
    ∧ (∀ (a b c d e f : Byte) (l : List Byte),
         requestOf 1 [] = some .identify ∧ requestOf 2 [a, b, c] = some (.readTable a b c)
           ∧ requestOf 3 (a :: b :: l) = some (.writeTable a b l) ∧ requestOf 4 [a, b, c] = some (.readState a b c)
           ∧ requestOf 5 [] = some .readFlags ∧ requestOf 6 [a, b, c, d] = some (.writeMask (a ++ b ++ c ++ d))
           ∧ requestOf 7 [a] = some (.readCounters a) ∧ requestOf 8 [] = some .clearCounters ∧ requestOf 9 [a] = some (.setMode a)
           ∧ requestOf 10 [] = some .stopAll ∧ requestOf 11 [a, b, c, d] = some (.dispatch a b (c ++ d))
           ∧ requestOf 12 [a] = some (.cancelRequest a) ∧ requestOf 13 [a, b] = some (.setTrainMode a b)
           ∧ requestOf 14 (a :: l) = some (.locate a l) ∧ requestOf 15 [a] = some (.remove a) ∧ requestOf 16 [a] = some (.clearHalt a)
           ∧ requestOf 17 [a] = some (.reverse a) ∧ requestOf 18 [a, b, c] = some (.calibrate a b c)
           ∧ requestOf 19 [a] = some (.cancelCalibration a) ∧ requestOf 20 [a] = some (.turnoutRetry a)
           ∧ requestOf 21 [a] = some (.clearBlock a) ∧ requestOf 22 [a, b] = some (.rotorStart a b)
           ∧ requestOf 23 [a] = some (.rotorStop a) ∧ requestOf 24 [a] = some (.rotorHalt a) ∧ requestOf 25 [a] = some (.clearRotor a)
           ∧ requestOf 26 [a, b, c, d, e, f] = some (.clockSet (a ++ b ++ c) (d ++ e) f)
           ∧ requestOf 27 [a, b] = some (.clockRate (a ++ b)) ∧ requestOf 28 [a] = some (.cueFire a)
           ∧ requestOf 29 [a] = some (.cueEnable a) ∧ requestOf 30 [a] = some (.cueDisable a)
           ∧ requestOf 31 [a] = some (.cueResetStamp a) ∧ requestOf 32 [] = some .store ∧ requestOf 33 [] = some .restore
           ∧ requestOf 34 [] = some .restart)
    ∧ (∀ (e : TrainEntry) (step : Nat) (emergency : Bool), driveFrame e step emergency =
         { dest := byte e.node, src := 0, kind := 0x10
           payload := [byte e.channel, byte ((if e.direction = .reverse then 1 else 0) + if emergency then 2 else 0), byte step] })
    ∧ (∀ (e : TurnoutEntry) (p : Position), switchFrame e p =
         { dest := byte e.node, src := 0, kind := 0x30, payload := [byte e.channel, if p = .reverse then 1 else 0] })
    ∧ (∀ (e : RotorEntry) (step : Nat), rotorFrame e step =
         { dest := byte e.node, src := 0, kind := 0x40, payload := [byte e.channel, if e.direction = .reverse then 1 else 0, byte step] })
    ∧ allStopFrame = { dest := 127, src := 0, kind := 0x11, payload := [] }
    ∧ senseRequestFrame = { dest := 127, src := 0, kind := 0x50, payload := [] }

/-- R183, Tables 11-6 to 11-11: the layout of a table entry loses nothing. For each of the fourteen tables, an entry that some bytes spell
is spelt again by the bytes that READ TABLE returns for it. R180, R170: the codes, sizes, classes and entry lengths of the tables (Table
10-3). Which bytes spell an entry, and which entry: a table's bytes are in its ranges (Tables 1-1, 2-1, 3-1, 3-3, 3-4, 4-1, 5-2, 6-1, 6-2,
7-1, 8-1 to 8-3, R102, R105, R109, R130, R142) exactly where they spell one, and each field stands at its offset, most significant byte
first. R179: the bytes that READ TABLE returns are those of the write with every unused bit and byte 0. (That a BUTTON or SPARE entry needs
subject 0xFF is log entry 20.) -/
def Obligations.TableEntriesSurviveReadAndWrite : Prop :=
  ((∀ bs e, BlockEntry.decode bs = some e → BlockEntry.decode e.encode = some e)
     ∧ (∀ bs e, TurnoutEntry.decode bs = some e → TurnoutEntry.decode e.encode = some e)
     ∧ (∀ bs e, RouteEntry.decode bs = some e → RouteEntry.decode e.encode = some e)
     ∧ (∀ bs e, TrainEntry.decode bs = some e → TrainEntry.decode e.encode = some e)
     ∧ (∀ bs e, SensorEntry.decode bs = some e → SensorEntry.decode e.encode = some e)
     ∧ (∀ bs e, LoopConfig.decode bs = some e → LoopConfig.decode e.encode = some e)
     ∧ (∀ bs e, PolicyEntry.decode bs = some e → PolicyEntry.decode e.encode = some e)
     ∧ (∀ bs e, PatchEntry.decode bs = some e → PatchEntry.decode e.encode = some e)
     ∧ (∀ bs e, decodeSky bs = some e → decodeSky (encodeSky e) = some e)
     ∧ (∀ bs e, decodeAmbient bs = some e → decodeAmbient (encodeAmbient e) = some e)
     ∧ (∀ bs e, ClockConfig.decode bs = some e → ClockConfig.decode e.encode = some e)
     ∧ (∀ bs e, RotorEntry.decode bs = some e → RotorEntry.decode e.encode = some e)
     ∧ (∀ bs e, CueEntry.decode bs = some e → CueEntry.decode e.encode = some e)
     ∧ ∀ m, decodeMask (word32Bytes m) = m)
    ∧ (let tables : List TableId :=
         [.block, .turnout, .route, .train, .sensor, .loop, .policy, .patch, .sky, .ambient, .clock, .rotor, .cue, .mask]
       (∀ n, TableId.ofCode n = tables[n]?)
         ∧ tables.map TableId.entries = [48, 16, 32, 8, 128, 1, 96, 192, 1, 1, 1, 4, 64, 1]
         ∧ tables.map TableId.isSafety = List.replicate 6 true ++ List.replicate 8 false
         ∧ ∀ bs, tables.map (fun t => t.entrySize bs) =
             [6, 6, 25, 15, 7, 3, 1, 14, 1 + (21 * (at0 bs 0).toNat + 7) / 8, 1 + 4 * (at0 bs 0).toNat, 9, 9, 34, 4])
    ∧ ∀ bs : List Byte,
        let b : Nat → Nat := fun i => (bs.getD i 0).toNat
        let w : Nat → Nat := fun i => b i * 256 + b (i + 1)
        let bit : Nat → Nat → Bool := fun i k => (b i).testBit k
        let within : Nat → Nat → Nat → Prop := fun low high v => low ≤ v ∧ v ≤ high
        let spells : ∀ {α : Type}, Option α → Prop → (α → Prop) → Prop := fun d fits fields =>
          (d.isSome = true ↔ fits) ∧ ∀ e, d = some e → fields e
        let returned : Nat → List Byte → (Nat → Byte) → Prop := fun n encoded used =>
          bs.length = n → encoded = bs.zipIdx.map fun p => p.1 &&& used p.2
        let flags : Byte → Nat → Byte := fun mask i => if i = 0 then mask else 0xFF
        spells (BlockEntry.decode bs) (within 50 8000 (w 1) ∧ within 1 126 (b 3) ∧ within 0 10000 (w 4))
            (fun e => e.enabled = bit 0 0 ∧ e.crossing = bit 0 1 ∧ e.length = w 1 ∧ e.speedCap = b 3 ∧ e.warnTime = w 4
              ∧ returned 6 e.encode (flags 3))
          ∧ spells (TurnoutEntry.decode bs) (within 1 96 (b 1) ∧ within 0 15 (b 2) ∧ within 0 47 (b 3) ∧ within 100 5000 (w 4))
              (fun e => e.enabled = bit 0 0 ∧ e.feedback = bit 0 1 ∧ e.node = b 1 ∧ e.channel = b 2 ∧ e.block.val = b 3
                ∧ e.throwLimit = w 4 ∧ returned 6 e.encode (flags 3))
          ∧ spells (RouteEntry.decode bs)
              (within 0 47 (b 1) ∧ within 1 126 (b 2) ∧ within 1 8 (b 3) ∧ (∀ i < b 3, within 0 47 (b (4 + i)))
                ∧ within 0 6 (b 12) ∧ ∀ i < b 12, within 0 15 (b (13 + 2 * i)) ∧ within 0 1 (b (14 + 2 * i)))
              (fun e => e.enabled = bit 0 0 ∧ e.start.val = b 1 ∧ e.cruise = b 2
                ∧ e.blocks.map (fun x => x.val) = (List.range (b 3)).map (fun i => b (4 + i))
                ∧ e.turnouts.map (fun p => (p.1.val, p.2)) =
                    (List.range (b 12)).map (fun i => (b (13 + 2 * i), if b (14 + 2 * i) = 0 then Position.normal else .reverse))
                ∧ returned 25 e.encode fun i =>
                    if i = 0 then 1 else if i < 4 + b 3 ∨ 12 ≤ i ∧ i < 13 + 2 * b 12 then 0xFF else 0)
          ∧ spells (TrainEntry.decode bs)
              (within 1 96 (b 1) ∧ within 0 7 (b 2) ∧ within 1 255 (b 3) ∧ within 1 250 (b 4) ∧ within 1 250 (b 5) ∧ within 0 40 (b 7)
                ∧ within 10 2000 (w 8) ∧ within 0 2000 (w 10) ∧ (w 12 = 0 ∨ within 100 10000 (w 12))
                ∧ (bit 0 3 = true → within 0 47 (b 14)))
              (fun e => e.enabled = bit 0 0 ∧ e.direction = (if bit 0 1 then Direction.reverse else .forward)
                ∧ e.mode = (if bit 0 2 then TrainMode.guided else .auto) ∧ e.node = b 1 ∧ e.channel = b 2 ∧ e.speedScale = b 3
                ∧ e.acceleration = b 4 ∧ e.deceleration = b 5 ∧ e.stopMargin = b 6 ∧ e.startStep = b 7 ∧ e.missDistance = w 8
                ∧ e.earlyTolerance = w 10 ∧ e.guideTimeout = w 12
                ∧ e.home.map (fun x => x.val) = (if bit 0 3 then some (b 14) else none)
                ∧ returned 15 e.encode fun i => if i = 0 then 15 else if i = 14 ∧ bit 0 3 = false then 0 else 0xFF)
          ∧ spells (SensorEntry.decode bs)
              (within 1 96 (b 1) ∧ within 0 15 (b 2) ∧ within 0 500 (w 5) ∧ match b 3 with
                | 0 => within 0 47 (b 4)
                | 1 => b 4 = 255
                | 2 => within 0 15 (b 4)
                | 3 => within 0 15 (b 4)
                | 4 => within 0 3 (b 4)
                | 5 => b 4 = 255
                | _ => False)
              (fun e => e.enabled = bit 0 0 ∧ e.invert = bit 0 1 ∧ e.node = b 1 ∧ e.input = b 2 ∧ e.filterTime = w 5
                ∧ (match e.function with
                  | .occupancy x => b 3 = 0 ∧ x.val = b 4
                  | .button => b 3 = 1
                  | .turnoutNormal x => b 3 = 2 ∧ x.val = b 4
                  | .turnoutReverse x => b 3 = 3 ∧ x.val = b 4
                  | .index x => b 3 = 4 ∧ x.val = b 4
                  | .spare => b 3 = 5)
                ∧ returned 7 e.encode (flags 3))
          ∧ spells (LoopConfig.decode bs) (within 10 250 (b 0) ∧ within 1 15 (b 1) ∧ within 1 15 (b 2))
              (fun e => e.echoInterval = b 0 ∧ e.passThreshold = b 1 ∧ e.errorThreshold = b 2 ∧ returned 3 e.encode fun _ => 0xFF)
          ∧ spells (PolicyEntry.decode bs) True
              (fun e => e.forwardSense = bit 0 0 ∧ e.forwardLightcount = bit 0 1 ∧ e.forwardNodeFault = bit 0 2
                ∧ returned 1 e.encode (flags 7))
          ∧ spells (PatchEntry.decode bs)
              (¬ (bit 0 1 = true ∧ bit 0 2 = true) ∧ within 1 96 (b 1) ∧ within 0 63 (b 2) ∧ match b 3 with
                | 0 => True
                | 1 => w 4 < w 6 ∧ within 0 1000 (w 4) ∧ within 0 1000 (w 6)
                | 2 => w 4 ≠ w 6 ∧ within 0 1439 (w 4) ∧ within 0 1439 (w 6)
                | 3 => within 0 47 (b 4) ∧ within 0 1 (b 5)
                | 4 => within 0 47 (b 4) ∧ within 0 1 (b 5)
                | 5 => within 0 7 (b 4) ∧ within 0 1000 (w 5)
                | 6 => within 0 3 (b 4) ∧ w 5 ≠ w 7 ∧ within 0 999 (w 5) ∧ within 0 999 (w 7)
                | 7 => True
                | _ => False)
              (fun e => e.mapped = bit 0 0 ∧ e.ownership = (if bit 0 1 then .engine else if bit 0 2 then .merge else .show)
                ∧ e.node = b 1 ∧ e.nodeChannel = b 2
                ∧ (match e.kind with
                  | .skywash low high => b 3 = 0 ∧ low = b 4 ∧ high = b 5
                  | .street on off stagger => b 3 = 1 ∧ on = w 4 ∧ off = w 6 ∧ stagger = w 8
                  | .window on off => b 3 = 2 ∧ on = w 4 ∧ off = w 6
                  | .signal x shows => b 3 = 3 ∧ x.val = b 4 ∧ shows = if b 5 = 0 then .proceed else .stop
                  | .crossing x phase => b 3 = 4 ∧ x.val = b 4 ∧ phase = if b 5 = 0 then .a else .b
                  | .headlight x on => b 3 = 5 ∧ x.val = b 4 ∧ on = w 5
                  | .chase x first last => b 3 = 6 ∧ x.val = b 4 ∧ first = w 5 ∧ last = w 7
                  | .cue => b 3 = 7)
                ∧ e.onValue = b 10 ∧ e.ceiling = b 11 ∧ e.fadeStep = b 12 ∧ e.ambientWeight = b 13
                ∧ returned 14 e.encode fun i =>
                    if i = 0 then 7 else if 4 + [2, 6, 4, 2, 2, 3, 5, 0].getD (b 3) 0 ≤ i ∧ i < 10 then 0 else 0xFF)
          ∧ (bs.length = 1 + (21 * b 0 + 7) / 8 →
              let pad := 8 * ((21 * b 0 + 7) / 8) - 21 * b 0
              let packed : List Byte → Nat := fun l => l.foldl (fun v x => v * 256 + x.toNat) 0
              let minute : Nat → Nat := fun i => packed bs.tail / 2 ^ (pad + 21 * (b 0 - i) - 11) % 2048
              let level : Nat → Nat := fun i => packed bs.tail / 2 ^ (pad + 21 * (b 0 - i) - 21) % 1024
              spells (decodeSky bs)
                (within 2 16 (b 0) ∧ (∀ i < b 0, within 0 1439 (minute i) ∧ within 0 1000 (level i))
                  ∧ ∀ i, i + 1 < b 0 → minute i < minute (i + 1))
                (fun e => e = (List.range (b 0)).map (fun i => (minute i, level i))
                  ∧ (encodeSky e).length = bs.length ∧ (encodeSky e).head? = bs.head?
                  ∧ packed (encodeSky e).tail = packed bs.tail / 2 ^ pad * 2 ^ pad))
          ∧ spells (decodeAmbient bs)
              (within 2 8 (b 0) ∧ (∀ i < b 0, within 0 8000 (w (1 + 4 * i)) ∧ within 0 1000 (w (3 + 4 * i)))
                ∧ ∀ i, i + 1 < b 0 → w (1 + 4 * i) < w (5 + 4 * i))
              (fun e => e = (List.range (b 0)).map (fun i => (w (1 + 4 * i), w (3 + 4 * i)))
                ∧ returned (1 + 4 * b 0) (encodeAmbient e) fun _ => 0xFF)
          ∧ spells (ClockConfig.decode bs)
              (within 0 86399 (b 0 * 65536 + w 1) ∧ within 0 96 (b 5) ∧ within 0 1000 (w 6) ∧ within 1 60 (b 8))
              (fun e => e.startTime = b 0 * 65536 + w 1 ∧ e.startRate = w 3 ∧ e.ambientNode = b 5 ∧ e.ambientDefault = w 6
                ∧ e.ambientTimeout = b 8 ∧ returned 9 e.encode fun _ => 0xFF)
          ∧ spells (RotorEntry.decode bs)
              (within 1 96 (b 1) ∧ within 0 3 (b 2) ∧ within 1 126 (b 3) ∧ within 1 40 (b 4) ∧ b 4 ≤ b 3 ∧ within 1 250 (b 5)
                ∧ within 0 127 (b 6) ∧ within 500 65535 (w 7))
              (fun e => e.enabled = bit 0 0 ∧ e.direction = (if bit 0 1 then Direction.reverse else .forward) ∧ e.node = b 1
                ∧ e.channel = b 2 ∧ e.maxStep = b 3 ∧ e.creepStep = b 4 ∧ e.acceleration = b 5 ∧ e.indexEntry.val = b 6
                ∧ e.stallLimit = w 7 ∧ returned 9 e.encode (flags 3))
          ∧ (let subjects : List Nat := [0, 48, 48, 128, 128, 128, 1440, 0, 4, 4, 8, 8, 8, 64, 0, 0]
             let fits : Nat → Prop := fun i => within 1 15 (b i)
               ∧ if subjects.getD (b i) 0 = 0 then w (i + 1) = 0xFFFF else w (i + 1) < subjects.getD (b i) 0
             let selects : Nat → CueTrigger → Prop := fun i t => match t with
               | .blockEnter x => b i = 1 ∧ w (i + 1) = x.val
               | .blockClear x => b i = 2 ∧ w (i + 1) = x.val
               | .button x => b i = 3 ∧ w (i + 1) = x.val
               | .spareRise x => b i = 4 ∧ w (i + 1) = x.val
               | .spareFall x => b i = 5 ∧ w (i + 1) = x.val
               | .minute x => b i = 6 ∧ w (i + 1) = x
               | .clockJumped => b i = 7
               | .rotorIndex x => b i = 8 ∧ w (i + 1) = x.val
               | .rotorStopped x => b i = 9 ∧ w (i + 1) = x.val
               | .trainArrived x => b i = 10 ∧ w (i + 1) = x.val
               | .routeGranted x => b i = 11 ∧ w (i + 1) = x.val
               | .routeTimeout x => b i = 12 ∧ w (i + 1) = x.val
               | .cueFired x => b i = 13 ∧ w (i + 1) = x.val
               | .loopUp => b i = 14
               | .loopDown => b i = 15
             let mayAct : Nat → Prop := fun i => match b i with
               | 1 => within 0 7 (b (i + 1)) ∧ within 0 31 (b (i + 2)) ∧ within 0 600 (w (i + 3))
               | 2 => within 0 7 (b (i + 1))
               | 3 => within 0 191 (b (i + 1)) ∧ within 1 65535 (w (i + 3))
               | 4 => within 0 3 (b (i + 1)) ∧ within 0 126 (b (i + 2))
               | 5 => within 0 3 (b (i + 1))
               | 6 => True
               | 7 => True
               | 8 => within 0 63 (b (i + 1))
               | 9 => within 0 63 (b (i + 1))
               | 10 => True
               | _ => False
             let acts : Nat → CueAction → Prop := fun i a => match a with
               | .dispatch t r wait => b i = 1 ∧ t.val = b (i + 1) ∧ r.val = b (i + 2) ∧ wait = w (i + 3)
               | .cancelRequest t => b i = 2 ∧ t.val = b (i + 1)
               | .override c level time => b i = 3 ∧ c.val = b (i + 1) ∧ level = b (i + 2) ∧ time = w (i + 3)
               | .rotorStart r step => b i = 4 ∧ r.val = b (i + 1) ∧ step = b (i + 2)
               | .rotorStop r => b i = 5 ∧ r.val = b (i + 1)
               | .setRate q => b i = 6 ∧ q = w (i + 1)
               | .modeHold => b i = 7
               | .enableCue k => b i = 8 ∧ k.val = b (i + 1)
               | .disableCue k => b i = 9 ∧ k.val = b (i + 1)
               | .report d => b i = 10 ∧ d = w (i + 1)
             spells (CueEntry.decode bs)
               (within 0 4 (b 1) ∧ within 1 255 (b 2) ∧ fits 3 ∧ (b 6 = 0 ∨ fits 6) ∧ (b 6 = 0 ↔ b 1 = 0) ∧ within 1 65535 (w 9)
                 ∧ within 1 4 (b 13) ∧ ∀ i < b 13, mayAct (14 + 5 * i))
               (fun e => e.enabled = bit 0 0 ∧ e.oneShot = bit 0 1 ∧ e.stampMode = (if bit 0 2 then .last else .first)
                 ∧ [CueMode.countA, .either, .aThenB, .aCountThenB, .bothWithin].idxOf e.mode = b 1 ∧ e.count = b 2
                 ∧ selects 3 e.triggerA
                 ∧ (match e.triggerB with
                   | none => b 6 = 0
                   | some t => selects 6 t)
                 ∧ e.window = w 9 ∧ e.holdOff = w 11 ∧ e.actions.length = b 13
                 ∧ (∀ i a, e.actions[i]? = some a → acts (14 + 5 * i) a)
                 ∧ returned 34 e.encode fun i =>
                     let slot := (i - 14) / 5
                     if i = 0 then 7 else if 6 ≤ i ∧ i < 9 ∧ b 6 = 0 then 0 else if i < 14 then 0xFF
                     else if slot < b 13 ∧ (i - 14) % 5 ≤ [0, 4, 1, 4, 2, 1, 2, 0, 1, 1, 2].getD (b (14 + 5 * slot)) 0 then 0xFF
                     else 0))
          ∧ (bs.length = 4 → (decodeMask bs).toNat = w 0 * 65536 + w 2 ∧ word32Bytes (decodeMask bs) = bs)

/-- Log entry 2: the characters of a frame, arriving at S-in or at F-in, do what the command that names that frame does. -/
def Obligations.RawCharactersDoWhatTheirCommandDoes : Prop :=
  (∀ (c : Instr) (f : Frame) (s : State), showFrame c = some f → f.inLimits → exec (.sInFrame f.wire) s = exec c s)
    ∧ ∀ (c : Instr) (f : Frame) (s : State), fieldFrame c = some f → f.inLimits → exec (.fInFrame f.wire) s = exec c s

/-! ## Invariants of every step -/

/-- R19, R162: at both receiving ports the good frames are the sum of the forwarded, consumed and dropped frames modulo 2^32, and the
drop-reason counters sum to the dropped frames; every step keeps that. -/
def Obligations.StepKeepsTheCountingLaw : Prop :=
  ∀ s t : State, step s = .next t → s.counters.lawful → t.counters.lawful

/-- R9 to R11, R13, R14, R52, R144, R157, R163, R164: no queue grows past its capacity, no key waits twice, a train has at most one request,
and F-out never idles while a frame waits for it. -/
def Obligations.StepKeepsTheQueuesWithinBounds : Prop :=
  ∀ s t : State, step s = .next t → s.queuesFit → s.field.busy → t.queuesFit ∧ t.field.busy

/-- R72, R76, R139, Table 4-3: a train's step is 0 unless the part mode is RUN or HOLDING and the field loop is QUALIFIED, a train whose
step exceeds its permitted step is in BRAKING, and no rotor runs or homes outside RUN or on a ring that is not QUALIFIED. -/
def Obligations.StepKeepsMotionSafe : Prop := ∀ s t : State, step s = .next t → s.motionSafe → t.motionSafe

/-- R37, R46, R49, R51, R52, R62: a block has at most one holder, which is the train in whose list it stands; only located trains hold
reserved blocks or wait for a route; and every authorised count is the count of R49. -/
def Obligations.StepKeepsTheTrackSafe : Prop := ∀ s t : State, step s = .next t → s.trackSafe → t.trackSafe

/-- Section 2.2 with R25 to R29: a running filter timer has raw different from filtered, and a FRESH entry at rest has them equal. R22, R23,
R30, R32: each block's detection with its fully-fresh flag and each turnout's indication are, after every step, those of Tables 2-5 and 2-7
for the entries as they stand. -/
def Obligations.StepKeepsTheFiltersAndViews : Prop :=
  (∀ s t : State, step s = .next t → s.filtersAgree → t.filtersAgree)
    ∧ (∀ s t : State, step s = .next t → s.viewsAgree → t.viewsAgree)

/-- R47, R53, R82, R174, R176 and log entries 6 and 18: after every step the Route Queue has been served, HOLDING has not outlasted the last
step above 0, and STARTING stands exactly while a load is under way. -/
def Obligations.StepLeavesNothingDue : Prop :=
  ∀ s t : State, step s = .next t → s.settled → s.startingIsLoading → t.settled ∧ t.startingIsLoading

/-- The invariants above hold of the part right after power-on. -/
def Obligations.ResetMeetsTheInvariants : Prop :=
  State.reset.counters.lawful ∧ State.reset.queuesFit ∧ State.reset.field.busy ∧ State.reset.motionSafe ∧ State.reset.trackSafe
    ∧ State.reset.filtersAgree ∧ State.reset.viewsAgree ∧ State.reset.settled ∧ State.reset.startingIsLoading

/-! ## The Field Loop (Chapter 1) -/

/-- R3: an expiry of the interval timer adds 1 to the echo number, marks it outstanding, offers the ECHO to the Urgent Queue under its key
and restarts the timer; nothing else changes. -/
def Obligations.EchoIntervalSendsTheNextEcho : Prop :=
  ∀ (s : State) (d : Nat), s.loop.intervalTimer = some d →
    exec .echoIntervalExpiry s = .next
      { s with
        loop := { s.loop with
          echoNumber := s.loop.echoNumber + 1, echoOutstanding := true, intervalTimer := some s.tables.loop.echoInterval }
        field := FieldPort.grant { s.field with
          urgent := keyedOffer s.field.urgent .echo { dest := 0, src := 0, kind := 0x01, payload := [s.loop.echoNumber + 1] } } }

/-- R4 and Table 1-3: an ECHO is good if one is outstanding and it carries the number last queued. Any other is dropped as stale and changes
nothing else. A good one is consumed, is no longer outstanding, lowers the error count and restarts the watchdog; it counts toward
qualification in DOWN and PROVING. -/
def Obligations.EchoIsJudgedByItsNumber : Prop :=
  ∀ (payload : List Byte) (s : State),
    (¬ (s.loop.echoOutstanding = true ∧ payload = [s.loop.echoNumber]) →
        exec (.echoReceived payload) s = .next
          { s with
            counters := { s.counters with
              fIn := { s.counters.fIn with good := s.counters.fIn.good + 1, dropped := s.counters.fIn.dropped + 1 }
              fInDrops := modifyAt s.counters.fInDrops FInDrop.staleEcho.index (· + 1) } })
      ∧ (s.loop.echoOutstanding = true → payload = [s.loop.echoNumber] →
          ∃ t : State, exec (.echoReceived payload) s = .next t
            ∧ t.counters.fIn = { s.counters.fIn with good := s.counters.fIn.good + 1, consumed := s.counters.fIn.consumed + 1 }
            ∧ t.counters.fInDrops = s.counters.fInDrops
            ∧ t.loop = { s.loop with
                echoOutstanding := false
                errorCount := s.loop.errorCount - 1
                watchdog := some (2 * s.tables.loop.echoInterval)
                goodCount := match s.loop.state with
                  | .down => 1
                  | .proving => s.loop.goodCount + 1
                  | .qualified => s.loop.goodCount
                state := match s.loop.state with
                  | .down => if s.tables.loop.passThreshold = 1 then .qualified else .proving
                  | .proving => if s.tables.loop.passThreshold ≤ s.loop.goodCount + 1 then .qualified else .proving
                  | .qualified => .qualified }
            ∧ (t.loop.state ≠ .qualified ∨ s.loop.state = .qualified → OnlyChanges [.fIn, .loop, .trains] s t))

/-- R7, R29: the good echo that qualifies the ring makes every Sensor Map entry STALE with its raw and filtered states kept, queues a
SENSE_REQUEST, latches LOOP_UP, leaves no request in the Route Queue that could be granted, and moves no train and no rotor. -/
def Obligations.QualifyingMarksEveryEntryStale : Prop :=
  ∀ s : State, s.settled → s.loop.echoOutstanding = true →
    (s.loop.state = .down ∧ s.tables.loop.passThreshold = 1
      ∨ s.loop.state = .proving ∧ s.tables.loop.passThreshold ≤ s.loop.goodCount + 1) →
    ∃ t : State, exec (.echoReceived [s.loop.echoNumber]) s = .next t
      ∧ t.loop.state = .qualified
      ∧ (∀ e, t.sensor e = if (s.sensor e).fresh then { s.sensor e with fresh := false, timer := none } else s.sensor e)
      ∧ ((.senseRequest, senseRequestFrame) ∈ t.field.urgent ∨ t.field.transmitting = some (.urgent, senseRequestFrame))
      ∧ t.report.flags.getLsbD EventKind.loopUp.code = true
      ∧ (∀ tr, (t.train tr).step = (s.train tr).step)
      ∧ t.interlock.serviceDue = false ∧ (∀ q ∈ t.interlock.queue, grantable t q = false)
      ∧ OnlyChanges [.loop, .fIn, .output, .fOut, .entries, .views, .indications, .blocks, .turnouts, .paths, .queue, .trains, .events,
          .blockCounters, .link, .sOut, .report] s t

/-- R16 with Table 1-3: a damaged frame at F-in is counted by its error, raises e as far as 15 and in PROVING sets c to 0; in QUALIFIED,
while e stays below T, nothing else changes. Table 1-3: a watchdog expiry restarts the watchdog; in PROVING it also takes the ring to DOWN
with cause TIMEOUT and c at 0, and raises no event. In DOWN nothing but the loop changes. In PROVING every train's permitted step is then 0,
and a located train with a step above 0 is BRAKING (R72, R76); nothing else of a train, and nothing else of the part, changes. -/
def Obligations.DamagedFramesAndSilenceWearTheRing : Prop :=
  (∀ (chars : List Byte) (s : State),
     s.loop.state ≠ .qualified ∨ min (s.loop.errorCount + 1) 15 < s.tables.loop.errorThreshold →
     ∀ count : PortTotals → PortTotals,
       (judge chars = .formatError ∧ count = fun p => { p with formatErrors := p.formatErrors + 1 })
         ∨ (judge chars = .checkError ∧ count = fun p => { p with checkErrors := p.checkErrors + 1 }) →
       exec (.fInFrame chars) s = .next
         { s with
           counters := { s.counters with fIn := count s.counters.fIn }
           loop := { s.loop with
             errorCount := min (s.loop.errorCount + 1) 15
             goodCount := if s.loop.state = .proving then 0 else s.loop.goodCount } })
    ∧ (∀ (s : State) (d : Nat), s.loop.watchdog = some d → s.loop.state ≠ .qualified →
         ∃ t : State, exec .watchdogExpiry s = .next t ∧ OnlyChanges [.loop, .trains] s t
           ∧ t.loop = { s.loop with
               watchdog := some (2 * s.tables.loop.echoInterval)
               state := .down
               goodCount := if s.loop.state = .proving then 0 else s.loop.goodCount
               downCause := if s.loop.state = .proving then some .timeout else s.loop.downCause }
           ∧ (s.loop.state = .down → t.motion = s.motion)
           ∧ (s.loop.state = .proving → ∀ x, t.train x = { s.train x with
               permitted := 0
               condition := if (s.train x).condition.isLocated = true ∧ 0 < (s.train x).step then .braking else (s.train x).condition }))

/-- R6 with Table 1-3: when the ring leaves QUALIFIED, by a damaged frame that brings e to T or by the watchdog, the down cause is recorded,
an ALLSTOP goes out or waits, every located train is HALTED with cause LOOP and step 0, its emergency DRIVE waiting and its reserved blocks
given up (R83), every rotor that turns or stands homed is HALTED with cause LOOP, its ROTOR of step 0 waiting (R134), no host DRIVE, ROTOR
or SWITCH waits in the Pass Queue and no ordinary DRIVE in the Engine Queue (R12), and LOOP_DOWN is latched. Trains and rotors already
halted keep their causes; LOST, ABSENT and UNHOMED ones keep their states. Lamps, tables and sensors stay. A reserved block that a halt
gives up loses its holder, its intruded flag and its crossing state, and unlocks the turnouts locked with it (R47, R62); every other block
keeps its holder and its crossing state, and every other turnout its state and its lock. -/
def Obligations.LosingTheRingStopsEverything : Prop :=
  ∀ (s : State) (c : Instr) (cause : DownCause), s.trackSafe → s.loop.state = .qualified →
    (c = .watchdogExpiry ∧ s.loop.watchdog.isSome = true ∧ cause = .timeout
      ∨ (∃ chars, c = .fInFrame chars ∧ (judge chars = .formatError ∨ judge chars = .checkError))
          ∧ s.tables.loop.errorThreshold ≤ min (s.loop.errorCount + 1) 15 ∧ cause = .errors) →
    let stopDrive : TrainId → Frame := fun tr =>
      { dest := byte (s.trainEntry tr).node, src := 0, kind := 0x10
        payload := [byte (s.trainEntry tr).channel, if (s.trainEntry tr).direction = Direction.reverse then 3 else 2, 0] }
    let stopRotor : RotorId → Frame := fun r =>
      { dest := byte (s.rotorEntry r).node, src := 0, kind := 0x40
        payload := [byte (s.rotorEntry r).channel, if (s.rotorEntry r).direction = Direction.reverse then 1 else 0, 0] }
    ∃ t : State, exec c s = .next t
      ∧ ((.allStop, { dest := 127, src := 0, kind := 0x11, payload := [] }) ∈ t.field.urgent
          ∨ t.field.transmitting = some (.urgent, { dest := 127, src := 0, kind := 0x11, payload := [] }))
      ∧ (∀ tr, (s.train tr).condition.isLocated = true →
          (.emergencyDrive tr, stopDrive tr) ∈ t.field.urgent ∧ (t.train tr).refreshTimer = some 1000)
      ∧ (∀ r, (s.rotor r).condition.isTurning = true ∨ (s.rotor r).condition = .stopped →
          (.rotor r, stopRotor r) ∈ t.field.engine ∧ (t.rotor r).refreshTimer = some 1000)
      ∧ t.loop.state = .down ∧ t.loop.downCause = some cause ∧ t.loop.goodCount = 0
      ∧ t.loop.errorCount = (if cause = .errors then 0 else s.loop.errorCount)
      ∧ t.loop.watchdog = (if cause = .timeout then some (2 * s.tables.loop.echoInterval) else s.loop.watchdog)
      ∧ (∀ tr, if (s.train tr).condition.isLocated
          then (t.train tr).condition = .halted ∧ (t.train tr).cause = some .loop ∧ (t.train tr).step = 0
            ∧ (t.path tr).reserved = [] ∧ (t.path tr).occupied = (s.path tr).occupied
          else (t.train tr).condition = (s.train tr).condition ∧ (t.train tr).cause = (s.train tr).cause
            ∧ (t.train tr).step = (s.train tr).step)
      ∧ (∀ b tr, (s.train tr).condition.isLocated = true → b ∈ (s.path tr).reserved →
          (t.block b).holding = none ∧ (t.block b).intruded = false
            ∧ ((s.blockEntry b).crossing = true → (t.block b).crossing = .idle ∧ (t.block b).warnTimer = none))
      ∧ (∀ b, (∀ tr, (s.train tr).condition.isLocated = true → b ∉ (s.path tr).reserved) → t.block b = s.block b)
      ∧ (∀ u tr, (s.turnout u).lock = some tr → (s.train tr).condition.isLocated = true →
          (s.turnoutEntry u).block ∈ (s.path tr).reserved →
          t.turnout u = { s.turnout u with
            lock := none, condition := if (s.turnout u).condition = .set then .free else (s.turnout u).condition })
      ∧ (∀ u, (∀ tr, (s.turnout u).lock = some tr → (s.train tr).condition.isLocated = true →
          (s.turnoutEntry u).block ∉ (s.path tr).reserved) → t.turnout u = s.turnout u)
      ∧ (∀ r, if (s.rotor r).condition.isTurning ∨ (s.rotor r).condition = .stopped
          then (t.rotor r).condition = .halted ∧ (t.rotor r).cause = some .loop ∧ (t.rotor r).step = 0
          else (t.rotor r).condition = (s.rotor r).condition ∧ (t.rotor r).cause = (s.rotor r).cause)
      ∧ (∀ f ∈ t.field.pass, f.isMotion = false ∧ f.kind ≠ kindSwitch)
      ∧ (∀ tr f, (EngineKey.drive tr, f) ∉ t.field.engine)
      ∧ t.report.flags.getLsbD EventKind.loopDown.code = true
      ∧ OnlyChanges [.loop, .fIn, .output, .fOut, .blocks, .turnouts, .paths, .queue, .serviceDue, .trains, .rotors, .events, .blockCounters,
          .link, .sOut, .report, .mode] s t

/-- R14: when F-out completes a frame, the sent counter of its queue increases by 1 and the Output Arbiter grants: the oldest urgent frame;
else, where both others wait, the oldest of the queue the marker does not name; else the oldest of the one that waits. A grant from the
Engine or Pass Queue sets the marker, one from the Urgent Queue leaves it. -/
def Obligations.ArbiterGrantsOnCompletion : Prop :=
  ∀ (s : State) (src : FOutSource) (f : Frame), s.field.transmitting = some (src, f) →
    ∃ t : State, exec .fOutTransmitComplete s = .next t ∧ OnlyChanges [.output, .fOut] s t
      ∧ t.counters.fOut = (match src with
          | .urgent => { s.counters.fOut with sentUrgent := s.counters.fOut.sentUrgent + 1 }
          | .engine => { s.counters.fOut with sentEngine := s.counters.fOut.sentEngine + 1 }
          | .pass => { s.counters.fOut with sentPass := s.counters.fOut.sentPass + 1 })
      ∧ t.field = (match s.field.urgent, s.field.engine, s.field.pass, s.field.servedLast with
          | u :: us, _, _, _ => { s.field with urgent := us, transmitting := some (.urgent, u.2) }
          | [], e :: es, _ :: _, .pass => { s.field with engine := es, transmitting := some (.engine, e.2), servedLast := .engine }
          | [], _ :: _, p :: ps, .engine => { s.field with pass := ps, transmitting := some (.pass, p), servedLast := .pass }
          | [], e :: es, [], _ => { s.field with engine := es, transmitting := some (.engine, e.2), servedLast := .engine }
          | [], [], p :: ps, _ => { s.field with pass := ps, transmitting := some (.pass, p), servedLast := .pass }
          | [], [], [], _ => { s.field with transmitting := none })

/-- R17, R20 and Table 1-7: an unclaimed frame is consumed and enters its node in the Missing Node List, with NODE_MISSING only where the
node was not in it; other nodes stay as they were. An unclaimed DRIVE halts the located train it names with cause NODE and its emergency
DRIVE (R83), an unclaimed SWITCH makes its turnout FAULT, an unclaimed ROTOR halts the rotor it names with a ROTOR of step 0 (R134); a frame
of another kind does no more. (That a frame without payload names channel 0 is the model's choice, log entry 32.) -/
def Obligations.UnclaimedFrameMarksItsNodeMissing : Prop :=
  ∀ (dest kind : Byte) (payload : List Byte) (s : State), 1 ≤ dest.toNat → dest.toNat ≤ 96 → kind ≠ kindEcho → s.settled →
    ∃ t : State, exec (.unclaimedFrame dest kind payload) s = .next t
      ∧ t.counters.fIn = { s.counters.fIn with good := s.counters.fIn.good + 1, consumed := s.counters.fIn.consumed + 1 }
      ∧ (∀ a, 1 ≤ a → a ≤ 96 → t.field.isMissing a = (decide (a = dest.toNat) || s.field.isMissing a))
      ∧ (s.field.isMissing dest.toNat = false → t.report.flags.getLsbD EventKind.nodeMissing.code = true)
      ∧ (s.field.isMissing dest.toNat = true →
          t.report.flags.getLsbD EventKind.nodeMissing.code = s.report.flags.getLsbD EventKind.nodeMissing.code
            ∧ ((kind = kindDrive → trainAt s.tables dest.toNat (n1 payload 0) = none) →
                (kind = kindSwitch → turnoutAt s.tables dest.toNat (n1 payload 0) = none) →
                (kind = kindRotor → rotorAt s.tables dest.toNat (n1 payload 0) = none) → t.report = s.report ∧ t.link = s.link))
      ∧ (kind = kindDrive → ∀ tr, trainAt s.tables dest.toNat (n1 payload 0) = some tr → (s.train tr).condition.isLocated = true →
          (t.train tr).condition = .halted ∧ (t.train tr).cause = some .node ∧ (t.train tr).step = 0 ∧ (t.path tr).reserved = []
            ∧ ((.emergencyDrive tr, driveFrame (s.trainEntry tr) 0 true) ∈ t.field.urgent
              ∨ t.field.transmitting = some (.urgent, driveFrame (s.trainEntry tr) 0 true))
            ∧ (∀ f, (EngineKey.drive tr, f) ∉ t.field.engine) ∧ (t.train tr).refreshTimer = some 1000)
      ∧ (kind = kindDrive → ∀ tr, trainAt s.tables dest.toNat (n1 payload 0) = some tr → (s.train tr).condition.isLocated = false →
          t.train tr = s.train tr)
      ∧ (kind = kindSwitch → ∀ u, turnoutAt s.tables dest.toNat (n1 payload 0) = some u →
          (t.turnout u).condition = .fault ∧ (t.turnout u).position = none ∧ (t.turnout u).throwTimer = none
            ∧ (t.turnout u).lock = (s.turnout u).lock ∧ t.report.flags.getLsbD EventKind.turnoutFault.code = true)
      ∧ (kind = kindRotor → ∀ r, rotorAt s.tables dest.toNat (n1 payload 0) = some r →
          (s.rotor r).condition.isTurning = true ∨ (s.rotor r).condition = .stopped →
          (t.rotor r).condition = .halted ∧ (t.rotor r).cause = some .node ∧ (t.rotor r).step = 0
            ∧ ((.rotor r, rotorFrame (s.rotorEntry r) 0) ∈ t.field.engine
              ∨ t.field.transmitting = some (.engine, rotorFrame (s.rotorEntry r) 0))
            ∧ (t.rotor r).refreshTimer = some 1000)
      ∧ (kind = kindRotor → ∀ r, rotorAt s.tables dest.toNat (n1 payload 0) = some r →
          (s.rotor r).condition = .unhomed ∨ (s.rotor r).condition = .halted → t.rotor r = s.rotor r)
      ∧ ((kind = kindDrive → trainAt s.tables dest.toNat (n1 payload 0) = none) →
          (kind = kindSwitch → turnoutAt s.tables dest.toNat (n1 payload 0) = none) →
          (kind = kindRotor → rotorAt s.tables dest.toNat (n1 payload 0) = none) → OnlyChanges [.fIn, .missing, .link, .sOut, .report] s t)
      ∧ OnlyChanges [.fIn, .missing, .output, .fOut, .blocks, .turnouts, .paths, .queue, .serviceDue, .trains, .rotors, .events,
          .blockCounters, .link, .sOut, .report, .mode] s t

/-- R18: a NODE_FAULT takes its node off the Missing Node List and raises NODE_FAULT. Where the node's policy forwards it and the Upstream
Queue then has room, its copy to address 126 is queued and it is counted as forwarded; refused for want of room it is dropped with
UPSTREAM_FULL; not forwarded it is consumed. Nothing else changes. -/
def Obligations.NodeFaultIsReportedAndForwarded : Prop :=
  ∀ (src : Byte) (payload : List Byte) (s : State), 1 ≤ src.toNat → src.toNat ≤ 96 →
    let e := raise .nodeFault src.toNat (n2 payload 0) s
    ∃ t : State, exec (.nodeFaultReceived src payload) s = .next t
      ∧ (∀ a, 1 ≤ a → a ≤ 96 → t.field.isMissing a = (decide (a ≠ src.toNat) && s.field.isMissing a))
      ∧ t.report = e.report ∧ t.report.flags.getLsbD EventKind.nodeFault.code = true ∧ t.counters.sOut = e.counters.sOut
      ∧ (if forwards s.tables src.toNat kindNodeFault
          then if e.othersWaiting < 28
            then t.link = ShowLink.start { e.link with
                upstream := e.link.upstream ++ [{ dest := 126, src := src, kind := kindNodeFault, payload := payload }] }
              ∧ t.counters.fIn = { s.counters.fIn with good := s.counters.fIn.good + 1, forwarded := s.counters.fIn.forwarded + 1 }
              ∧ t.counters.fInDrops = s.counters.fInDrops
            else t.link = e.link
              ∧ t.counters.fIn = { s.counters.fIn with good := s.counters.fIn.good + 1, dropped := s.counters.fIn.dropped + 1 }
              ∧ t.counters.fInDrops = modifyAt s.counters.fInDrops FInDrop.upstreamFull.index (· + 1)
          else t.link = e.link
            ∧ t.counters.fIn = { s.counters.fIn with good := s.counters.fIn.good + 1, consumed := s.counters.fIn.consumed + 1 }
            ∧ t.counters.fInDrops = s.counters.fInDrops)
      ∧ OnlyChanges [.fIn, .fInDrops, .missing, .link, .sOut, .report] s t

/-! ## Sensor Inputs (Chapter 2) -/

/-- R24, R29 with R18: a SENSE of node n acts on the enabled entries of n alone. With LEN other than 3 it changes none; with a status byte
other than 0 it makes the FRESH ones STALE, their raw and filtered states kept; with status 0 each is treated as a report of its input bit,
exclusive-or its invert flag. The node leaves the Missing Node List, and the frame is counted once. R30, R31, R59, R61, R62, R84, R87 to
R89: where the node's one enabled entry is an OCCUPANCY entry that the report makes FRESH, and no request waits, a change of its block's
detection or fully-fresh flag is RESTATED. It raises no BLOCK_STRAY for an unheld block and no event to the Cue Engine. It is an entry or an
intrusion where the block is now OCCUPIED and reserved, a clear where it is CLEAR and occupied by a located train, and neither where it is
UNKNOWN. A train HALTED by LOOP whose occupied blocks are all fully fresh on a QUALIFIED ring becomes STOPPED where all are OCCUPIED, and
else LOST holding its head alone; any other HALTED train stays. An armed LOST train without blocks is located at its home block, where no
train has that reserved. R25, R26, Table 2-4: what a valid report does to an enabled entry. A STALE entry becomes FRESH with filtered equal
to raw and makes no edge. A FRESH entry at rest keeps its filtered state, takes the change at once under filter time 0, or starts its filter
timer; a waiting entry whose input is back has its timer cancelled, and one whose change is repeated waits on. -/
def Obligations.SenseActsOnItsNodesEntries : Prop :=
  (∀ (src : Byte) (payload : List Byte) (s : State), 1 ≤ src.toNat → src.toNat ≤ 96 →
     ∃ t : State, exec (.senseReceived src payload) s = .next t
       ∧ (∀ e, t.sensor e =
           if (s.sensorEntry e).enabled = false ∨ (s.sensorEntry e).node ≠ src.toNat ∨ payload.length ≠ 3 then s.sensor e
           else if n1 payload 2 ≠ 0 then
             if (s.sensor e).fresh then { s.sensor e with fresh := false, timer := none } else s.sensor e
           else (reportEntry (s.sensorEntry e) ((n2 payload 0).testBit (s.sensorEntry e).input != (s.sensorEntry e).invert) (s.sensor e)).1)
       ∧ (∀ a, 1 ≤ a → a ≤ 96 → t.field.isMissing a = (decide (a ≠ src.toNat) && s.field.isMissing a))
       ∧ t.counters.fIn.good = s.counters.fIn.good + 1
       ∧ (forwards s.tables src.toNat kindSense = false → t.counters.fIn.consumed = s.counters.fIn.consumed + 1)
       ∧ (payload.length ≠ 3 → forwards s.tables src.toNat kindSense = false → s.settled → OnlyChanges [.fIn, .missing] s t)
       ∧ (∀ (e : EntryId) (b : BlockId),
             (∀ j, (s.sensorEntry j).enabled = true ∧ (s.sensorEntry j).node = src.toNat ↔ j = e) → (s.sensorEntry e).function = .occupancy b →
             payload.length = 3 → n1 payload 2 = 0 → (s.sensor e).fresh = false →
             let raw := ((n2 payload 0).testBit (s.sensorEntry e).input != (s.sensorEntry e).invert)
             let new := deriveBlock s.tables (s.filter.entries.set e { s.sensor e with raw := raw, filtered := raw, fresh := true }) b
             t.view b = new
               ∧ (new ≠ s.view b → s.settled → s.trackSafe → s.motionSafe → s.interlock.queue = [] →
                   let kept : TrainId → Nat := fun tr => if t.mode = s.mode then (s.train tr).permitted else 0
                   (t.block b).detection = new.detection ∧ t.cues = s.cues
                     ∧ ((s.block b).holding = none → t.report = s.report)
                     ∧ (new.detection = .unknown → ∀ tr, t.path tr = s.path tr ∧ t.train tr = s.train tr)
                     ∧ (new.detection = .occupied → ∀ tr, (s.block b).holding = some (tr, .reserved) →
                         ((s.path tr).reserved.head? = some b → 0 < (s.path tr).authorised → (s.path tr).occupied.length < 4 →
                             t.path tr = { occupied := b :: (s.path tr).occupied, reserved := (s.path tr).reserved.tail
                                           authorised := authorisedCount t tr }
                               ∧ (t.block b).holding = some (tr, .occupied) ∧ (t.train tr).position = 0 ∧ (t.train tr).step = (s.train tr).step)
                           ∧ ((s.path tr).reserved.head? ≠ some b → t.report.flags.getLsbD EventKind.blockStray.code = true))
                     ∧ (new.detection = .clear → ∀ tr, (s.block b).holding = some (tr, .occupied) → (s.train tr).condition.isLocated = true →
                         ((s.path tr).occupied = [b] → (t.train tr).condition = .lost ∧ (t.path tr).occupied = [b])
                           ∧ ((s.path tr).occupied ≠ [b] → (s.path tr).occupied.getLast? = some b →
                               (t.path tr).occupied = (s.path tr).occupied.dropLast ∧ (t.block b).holding = none))
                     ∧ (∀ tr, (s.train tr).condition = .halted → b ∈ (s.path tr).occupied →
                         let view : BlockId → BlockView := fun c => if c = b then new else s.view c
                         if (s.train tr).cause = some .loop ∧ s.qualified = true ∧ ∀ c ∈ (s.path tr).occupied, (view c).fullyFresh = true then
                           if ∀ c ∈ (s.path tr).occupied, (view c).detection = .occupied then
                             t.path tr = s.path tr ∧ t.train tr = { s.train tr with
                               condition := .stopped, cause := none, step := 0, target := 0, permitted := kept tr, guided := 0, unseen := 0
                               missAllowance := (s.trainEntry tr).missDistance * 1000 }
                           else (t.train tr).condition = .lost ∧ t.report.flags.getLsbD EventKind.trainLost.code = true
                             ∧ t.path tr = { occupied := (s.path tr).occupied.take 1, reserved := [], authorised := 0 }
                         else t.path tr = s.path tr ∧ t.train tr = { s.train tr with permitted := kept tr })
                     ∧ (∀ tr, (s.train tr).condition = .lost → (s.trainEntry tr).home = some b →
                         (∀ o, o ≠ tr → (s.trainEntry o).home ≠ some b) →
                         (∀ o, (s.block b).holding ≠ some (o, .reserved)) →
                         if (s.trainEntry tr).enabled = true ∧ (s.train tr).armed = true ∧ s.qualified = true ∧ (s.path tr).occupied = []
                             ∧ new.detection = .occupied ∧ new.fullyFresh = true ∧ (s.block b).holding = none ∧ (s.blockEntry b).enabled = true then
                           (t.path tr).occupied = [b] ∧ (t.block b).holding = some (tr, .occupied)
                             ∧ t.train tr = { s.train tr with
                               condition := .stopped, step := 0, target := 0, permitted := kept tr, guided := 0, accumulator := 0, ramp := .none, carry := 0
                               unseen := 0
                               armed := false, position := (s.blockEntry b).length * 1000
                               missAllowance := (s.trainEntry tr).missDistance * 1000 + (s.blockEntry b).length * 1000 }
                         else t.path tr = s.path tr ∧ t.train tr = { s.train tr with permitted := kept tr })))
       ∧ OnlyChanges [.fIn, .fInDrops, .missing, .entries, .views, .indications, .output, .fOut, .blocks, .turnouts, .paths, .queue,
           .serviceDue, .trainTable, .trains, .rotors, .events, .blockCounters, .link, .sOut, .report, .mode] s t)
    ∧ (∀ (e : SensorEntry) (raw : Bool) (x : SensorState),
         (x.fresh = false → reportEntry e raw x = ({ x with raw := raw, filtered := raw, fresh := true }, { freshness := true, edge := false }))
           ∧ (x.fresh = true → x.timer = none → raw = x.filtered →
               reportEntry e raw x = ({ x with raw := raw }, { freshness := false, edge := false }))
           ∧ (x.fresh = true → x.timer = none → raw ≠ x.filtered → e.filterTime = 0 →
               reportEntry e raw x = ({ x with raw := raw, filtered := raw }, { freshness := false, edge := true }))
           ∧ (x.fresh = true → x.timer = none → raw ≠ x.filtered → e.filterTime ≠ 0 →
               reportEntry e raw x = ({ x with raw := raw, timer := some e.filterTime }, { freshness := false, edge := false }))
           ∧ (x.fresh = true → x.timer.isSome = true → raw = x.filtered →
               reportEntry e raw x = ({ x with raw := raw, timer := none }, { freshness := false, edge := false }))
           ∧ (x.fresh = true → x.timer.isSome = true → raw ≠ x.filtered →
               reportEntry e raw x = ({ x with raw := raw }, { freshness := false, edge := false })))

/-- R27: the expiry of an entry's filter timer makes its raw state its filtered state and stops the timer; every other entry keeps its
state. R33: a BUTTON's rising edge reaches the Cue Engine as an event, and its falling edge does not; both edges of a SPARE do.

R32, R39, R41, R42: for a TURNOUT entry the indication of Table 2-7 is held, and a change of it is told to the turnout where its feedback is
yes. MOVING, it completes where the indication shows the commanded position; SET, it becomes FAULT with TURNOUT_FAULT where the indication
is known and does not show its position; FREE, its position follows. A lock holder's authorised count is recomputed.

R30, R31, Table 2-6: for an OCCUPANCY entry the detection of Table 2-5 is held, and a change of it reaches the Interlocking as ENTRY, CLEAR
or RESTATED, and the Cue Engine as BLOCK_ENTER or BLOCK_CLEAR. What an ENTRY does by the block's holder (no request waiting, and no train
that the notice could re-evaluate or locate): the first reserved block of a train is taken into its occupied list with the head advance of
R77, EARLY_ENTRY (R77) and the calibration result or start of R92, the train HALTED with cause LENGTH beyond 4 blocks, or OVERRUN where it
had no authority (R57); another reserved block is an intrusion, with BLOCK_STRAY, that halts a train that cannot stop (R58, R76); an unheld
enabled block is STRAY (R59); else only the detection changes. What a CLEAR does (R60, R84): the rear of several occupied blocks is
released; a train whose sole block, or sole remaining block, is clear becomes LOST; else only the detection changes. A halt, or a loss while
located, queues the emergency DRIVE (R83, R84). A RESTATED fall to UNKNOWN changes the detection alone (R61). (The low byte of EARLY_ENTRY's
detail, log entry 17, is left out here; the order of the notice's takers is log entry 16; a transit of no duration is left to the free value
of log entry 1; `now`, by which a transit is timed, is log entry 5.) -/
def Obligations.FilterTimerAcceptsTheChange : Prop :=
  ∀ (e : EntryId) (d : Nat) (s : State), (s.sensor e).timer = some d →
    let accepted : SensorState := { s.sensor e with filtered := (s.sensor e).raw, timer := none }
    ∃ t : State, exec (.filterTimerExpiry e) s = .next t
      ∧ (∀ j, t.sensor j = if j = e then accepted else s.sensor j)
      ∧ ((s.sensorEntry e).function = .button →
          OnlyChanges [.entries, .events, .blockCounters] s t
            ∧ ((s.sensor e).raw = true → (s.sensor e).filtered = false → s.mode ≠ .starting → s.cues.pendingEvents.length < 32 →
                t.cues.pendingEvents = s.cues.pendingEvents ++ [deviceEvent (.button e)])
            ∧ ((s.sensor e).raw = false → t.cues = s.cues))
      ∧ ((s.sensorEntry e).function = .spare →
          OnlyChanges [.entries, .events, .blockCounters] s t
            ∧ ((s.sensor e).raw ≠ (s.sensor e).filtered → s.mode ≠ .starting → s.cues.pendingEvents.length < 32 →
                t.cues.pendingEvents = s.cues.pendingEvents ++
                  [deviceEvent (if (s.sensor e).raw then .spareRise e else .spareFall e)]))
      ∧ (∀ u, (s.sensorEntry e).enabled = true →
            (s.sensorEntry e).function = .turnoutNormal u ∨ (s.sensorEntry e).function = .turnoutReverse u →
            let new := deriveTurnout s.tables (s.filter.entries.set e accepted) u
            let x := s.turnout u
            let y : TurnoutState := { x with indication := new }
            let shown := shownPosition s.tables u new
            let faults := (s.turnoutEntry u).feedback = true ∧ x.condition = .set ∧ new ≠ .unknown ∧ shown ≠ x.position
            t.filter.turnouts[u] = new
              ∧ (new = s.filter.turnouts[u] → OnlyChanges [.entries] s t)
              ∧ (new ≠ s.filter.turnouts[u] →
                  (∀ v, v ≠ u → t.turnout v = s.turnout v)
                    ∧ t.turnout u =
                        (if (s.turnoutEntry u).feedback = false then y
                        else match x.condition with
                          | .moving =>
                            if shown.isSome = true ∧ shown = x.commanded then
                              { y with position := x.commanded, throwTimer := none, condition := if x.lock.isSome then .set else .free }
                            else y
                          | .set => if faults then { y with position := none, throwTimer := none, condition := .fault } else y
                          | .free => if new = .unknown then y else { y with position := shown }
                          | .fault => y)
                    ∧ (faults → t.report.flags.getLsbD EventKind.turnoutFault.code = true)
                    ∧ (¬ faults → t.report = s.report ∧ t.link = s.link)
                    ∧ ((t.turnout u).condition ≠ x.condition → ∀ tr, x.lock = some tr → (t.path tr).authorised = authorisedCount t tr)
                    ∧ OnlyChanges [.entries, .indications, .turnouts, .paths, .trains, .link, .sOut, .report] s t))
      ∧ (∀ b, (s.sensorEntry e).enabled = true → (s.sensorEntry e).function = .occupancy b →
            let new := deriveBlock s.tables (s.filter.entries.set e accepted) b
            let old := s.view b
            let entered := new.detection = .occupied ∧ old.detection ≠ .occupied
            let cleared := new.detection = .clear ∧ old.detection = .occupied
            let seen : BlockState := { s.block b with detection := new.detection }
            let noted := OnlyChanges [.entries, .views, .blocks, .events, .blockCounters] s t
              ∧ ∀ c, t.block c = if c = b then seen else s.block c
            let cutOff : TrainId → Prop := fun tr => (t.train tr).refreshTimer = some 1000
              ∧ ((.emergencyDrive tr, driveFrame (s.trainEntry tr) 0 true) ∈ t.field.urgent
                ∨ t.field.transmitting = some (.urgent, driveFrame (s.trainEntry tr) 0 true))
            let lost : TrainId → Prop := fun tr =>
              (t.train tr).condition = .lost ∧ (t.train tr).cause = none ∧ (t.train tr).step = 0 ∧ (t.train tr).target = 0
                ∧ (t.train tr).guided = 0 ∧ (t.train tr).calibration = none ∧ (t.path tr).reserved = [] ∧ (t.path tr).authorised = 0
                ∧ t.report.flags.getLsbD EventKind.trainLost.code = true ∧ ((s.train tr).condition.isLocated = true → cutOff tr)
            let stood : TrainId → Prop := fun tr => (s.train tr).condition.isLocated = true ∨ (s.train tr).condition = .halted
            let halted : TrainId → HaltCause → Prop := fun tr cause =>
              (t.train tr).condition = .halted ∧ (t.train tr).cause = some cause ∧ (t.train tr).step = 0 ∧ (t.path tr).reserved = []
                ∧ t.report.flags.getLsbD EventKind.trainHalted.code = true ∧ cutOff tr
            let braked : TrainId → Prop := fun tr =>
              (t.train tr).step = (s.train tr).step ∧ (t.train tr).permitted = permittedStep t tr
                ∧ (t.train tr).condition = if permittedStep t tr < (s.train tr).step then .braking else (s.train tr).condition
            t.view b = new
              ∧ (new = old → OnlyChanges [.entries] s t)
              ∧ (new ≠ old → s.settled → s.trackSafe → s.interlock.queue = [] →
                  (∀ tr, ¬ ((s.train tr).condition = .halted ∧ (s.train tr).cause = some .loop ∧ b ∈ (s.path tr).occupied)
                    ∧ ¬ ((s.train tr).condition = .lost ∧ (s.trainEntry tr).home = some b)) →
                  (s.mode ≠ .starting → s.cues.pendingEvents.length < 32 →
                      (entered → t.cues.pendingEvents = s.cues.pendingEvents ++ [deviceEvent (.blockEnter b)])
                        ∧ (cleared → t.cues.pendingEvents = s.cues.pendingEvents ++ [deviceEvent (.blockClear b)]))
                    ∧ (new.detection = .unknown → noted ∧ t.cues = s.cues)
                    ∧ (entered → match (s.block b).holding with
                        | none =>
                          if (s.blockEntry b).enabled = true then
                            t.report = (raise .blockStray b.val 0xFFFF s).report ∧ t.link = (raise .blockStray b.val 0xFFFF s).link
                              ∧ (∀ c, t.block c = if c = b then seen else s.block c)
                              ∧ OnlyChanges [.entries, .views, .blocks, .events, .blockCounters, .link, .sOut, .report] s t
                          else noted
                        | some (_, .occupied) => noted
                        | some (tr, .reserved) =>
                          if (s.path tr).reserved.head? = some b then
                            let r := s.train tr
                            let long := 4 ≤ (s.path tr).occupied.length
                            let blind := (s.path tr).authorised = 0
                            (t.path tr).occupied = b :: (if long then (s.path tr).occupied.dropLast else (s.path tr).occupied)
                              ∧ (∀ rear, long → (s.path tr).occupied.getLast? = some rear → (t.block rear).holding = none)
                              ∧ (t.block b).holding = some (tr, .occupied) ∧ (t.block b).intruded = false
                              ∧ ((s.blockEntry b).crossing = true → (t.block b).crossing = .active ∧ (t.block b).warnTimer = none)
                              ∧ (t.train tr).position = 0 ∧ (t.train tr).unseen = 0 ∧ (t.train tr).carry = r.carry
                              ∧ (t.train tr).missAllowance = (s.trainEntry tr).missDistance * 1000
                              ∧ t.report.flags.getLsbD EventKind.earlyEntry.code = (s.report.flags.getLsbD EventKind.earlyEntry.code
                                  || decide (r.position < headLength s tr - (s.trainEntry tr).earlyTolerance * 1000))
                              ∧ (long → halted tr .length) ∧ (¬ long → blind → halted tr .overrun)
                              ∧ (¬ long → ¬ blind → braked tr ∧ (t.path tr).reserved = (s.path tr).reserved.tail
                                  ∧ (t.path tr).authorised = authorisedCount t tr)
                              ∧ (r.calibration = none → (t.train tr).calibration = none ∧ t.trainEntry tr = s.trainEntry tr)
                              ∧ (∀ c, r.calibration = some c →
                                  (0 < c.updates → ∀ entry, c.entryTime = some entry → entry < s.now →
                                      let length := (s.blockEntry c.block).length
                                      let time := s.now - entry
                                      let k := max 1 (min ((2 * (length * 16000) + c.step * time) / (2 * (c.step * time))) 255)
                                      (t.train tr).calibration = none ∧ t.trainEntry tr = { s.trainEntry tr with speedScale := k }
                                        ∧ t.report.flags.getLsbD EventKind.calDone.code = true)
                                    ∧ (c.entryTime = none ∨ c.updates = 0 → t.trainEntry tr = s.trainEntry tr
                                        ∧ (¬ long → ¬ blind → (t.train tr).calibration = some
                                            (if c.block = b then { c with entryTime := some s.now, updates := 0 } else { c with entryTime := none }))))
                          else
                            let n := authorisedCount (s.updBlock b fun x => { x with intruded := true }) tr
                            let stops := (s.train tr).step = 0
                              ∨ trainBraking s tr (s.train tr).step + (s.trainEntry tr).stopMargin * 1000
                                  ≤ distanceToHeadEnd s tr + totalLength s ((s.path tr).reserved.take n)
                            t.report.flags.getLsbD EventKind.blockStray.code = true ∧ (t.path tr).occupied = (s.path tr).occupied
                              ∧ (stops → t.report = (raise .blockStray b.val tr.val s).report ∧ t.link = (raise .blockStray b.val tr.val s).link
                                  ∧ t.path tr = { s.path tr with authorised := n } ∧ (t.block b).intruded = true
                                  ∧ (n ≠ (s.path tr).authorised → braked tr) ∧ (n = (s.path tr).authorised → t.train tr = s.train tr))
                              ∧ (¬ stops → halted tr .intrusion))
                    ∧ (cleared → match (s.block b).holding with
                        | none => noted
                        | some (_, .reserved) => noted
                        | some (tr, .occupied) =>
                          if (s.path tr).occupied = [b] then
                            (stood tr → lost tr ∧ (t.path tr).occupied = [b] ∧ (t.block b).holding = some (tr, .occupied))
                              ∧ (¬ stood tr → noted)
                          else if (s.path tr).occupied.getLast? = some b then
                            (t.path tr).occupied = (s.path tr).occupied.dropLast ∧ (t.block b).holding = none ∧ (t.block b).intruded = false
                              ∧ (let alone := ∃ c, (s.path tr).occupied.dropLast = [c] ∧ (s.block c).detection = .clear
                                 (alone → stood tr → lost tr)
                                   ∧ (¬ alone ∨ ¬ stood tr → (t.train tr).step = (s.train tr).step ∧ (t.path tr).reserved = (s.path tr).reserved
                                       ∧ (t.path tr).authorised = authorisedCount t tr))
                          else noted)))
      ∧ OnlyChanges [.entries, .views, .indications, .output, .fOut, .blocks, .turnouts, .paths, .queue, .serviceDue, .trainTable, .trains,
          .rotors, .events, .blockCounters, .link, .sOut, .report, .mode] s t

/-! ## Blocks, Turnouts and Routes (Chapter 3) -/

/-- R41: on the expiry of a throw timer the throw completes where the turnout has no feedback or its indication shows the commanded
position: the position becomes the commanded one and the turnout SET when locked, FREE when not. Otherwise it is FAULT with position
UNKNOWN, and TURNOUT_FAULT is latched. The authorised count of its lock holder is the count of R49 afterwards. R48: on the expiry of a warn
timer the crossing becomes ACTIVE and its holder's authorised count is recomputed; the lists of every path stay as they were, and other
blocks are not touched. R55: on the expiry of a request's wait timer the request leaves the Route Queue, ROUTE_TIMEOUT is raised with the
train as subject and the route as detail, and the other requests keep their places. -/
def Obligations.InterlockingTimersExpire : Prop :=
  (∀ (u : TurnoutId) (d : Nat) (s : State), (s.turnout u).throwTimer = some d →
     ∃ t : State, exec (.throwTimerExpiry u) s = .next t
       ∧ (∀ v, t.turnout v =
           if v = u then
             if (s.turnoutEntry u).feedback = false
                 ∨ (shownPosition s.tables u (s.turnout u).indication).isSome = true
                   ∧ shownPosition s.tables u (s.turnout u).indication = (s.turnout u).commanded
             then { s.turnout u with
               position := (s.turnout u).commanded, throwTimer := none, condition := if (s.turnout u).lock.isSome then .set else .free }
             else { s.turnout u with position := none, throwTimer := none, condition := .fault }
           else s.turnout v)
       ∧ ((t.turnout u).condition = .fault → t.report.flags.getLsbD EventKind.turnoutFault.code = true)
       ∧ (∀ tr, (s.turnout u).lock = some tr → (t.path tr).authorised = authorisedCount t tr)
       ∧ OnlyChanges [.turnouts, .paths, .trains, .link, .sOut, .report] s t)
    ∧ (∀ (b : BlockId) (d : Nat) (s : State), (s.block b).warnTimer = some d →
         ∃ t : State, exec (.warnTimerExpiry b) s = .next t
           ∧ (∀ c, t.block c = if c = b then { s.block b with crossing := .active, warnTimer := none } else s.block c)
           ∧ (∀ tr, (t.path tr).occupied = (s.path tr).occupied ∧ (t.path tr).reserved = (s.path tr).reserved)
           ∧ (∀ tr role, (s.block b).holding = some (tr, role) → (t.path tr).authorised = authorisedCount t tr)
           ∧ OnlyChanges [.blocks, .paths, .trains] s t)
    ∧ (∀ (tr : TrainId) (q : RouteRequest) (d : Nat) (s : State), requestOfTrain s tr = some q → q.waitTimer = some d →
         ∃ t : State, exec (.waitTimerExpiry tr) s = .next t
           ∧ t.interlock = { s.interlock with queue := s.interlock.queue.filter fun r => r.train ≠ tr }
           ∧ t.report = (raise .routeTimeout tr.val q.route.val s).report
           ∧ t.link = (raise .routeTimeout tr.val q.route.val s).link
           ∧ t.report.flags.getLsbD EventKind.routeTimeout.code = true
           ∧ (s.mode ≠ .starting → s.cues.pendingEvents.length < 32 →
               t.cues = { s.cues with pendingEvents := s.cues.pendingEvents ++ [deviceEvent (.routeTimeout tr)] })
           ∧ OnlyChanges [.queue, .link, .sOut, .report, .events, .blockCounters] s t)

/-- R49. An obstacle to a train is an intruded block, a crossing block that is not ACTIVE, or the block of a turnout that the train has
locked and that is not SET. With an obstacle in its occupied list a train's authorised count is 0. Without one the count takes in the
reserved list up to its first obstacle, and the whole list where it holds none: no block within the count is an obstacle, and the block that
follows it, where there is one, is. -/
def Obligations.AuthorityEndsBeforeTheFirstObstacle : Prop :=
  ∀ (s : State) (tr : TrainId),
    let obstacle : BlockId → Prop := fun b =>
      (s.block b).intruded = true
        ∨ (s.blockEntry b).crossing = true ∧ (s.block b).crossing ≠ .active
        ∨ ∃ u, (s.turnout u).lock = some tr ∧ (s.turnoutEntry u).block = b ∧ (s.turnout u).condition ≠ .set
    authorisedCount s tr ≤ (s.path tr).reserved.length
      ∧ ((∃ b ∈ (s.path tr).occupied, obstacle b) → authorisedCount s tr = 0)
      ∧ (∀ b ∈ (s.path tr).reserved.take (authorisedCount s tr), ¬ obstacle b)
      ∧ ((∀ b ∈ (s.path tr).occupied, ¬ obstacle b) → ∀ b, (s.path tr).reserved[authorisedCount s tr]? = some b → obstacle b)

/-- R52: a DISPATCH that passes every check joins the Route Queue as its newest request, with its wait timer started where the limit is not
0, and is answered ACCEPTED; one that fails a check changes nothing and is answered with the status of the first failing check. In RUN the
queue is then served from oldest to newest (R53); in another part mode no request is grantable. R56: CANCEL REQUEST removes the train's
pending request with ROUTE_REFUSED, cause CANCELLED, and is answered OK; without one it is refused with NOT_AVAILABLE, and for an index
above 7 with BAD_INDEX. -/
def Obligations.DispatchQueuesAndCancelRemoves : Prop :=
  (∀ (tag train route : Byte) (wait : BitVec 16) (s : State), s.ready →
     (7 < train.toNat ∨ 31 < route.toNat → exec (.dispatch tag train route wait) s = .next (reply tag .badIndex [] s.received))
       ∧ ∀ (tr : TrainId) (r : RouteId), train.toNat = tr.val → route.toNat = r.val →
           exec (.dispatch tag train route wait) s = .next
             (if (s.routeEntry r).enabled = false ∨ 600 < wait.toNat then reply tag .badValue [] s.received
              else if (s.train tr).condition.isLocated = false then reply tag .notAvailable [] s.received
              else if (requestOfTrain s tr).isSome = true then reply tag .duplicate [] s.received
              else if ((s.path tr).reserved.getLast?.or (s.path tr).occupied.head?) ≠ some (s.routeEntry r).start then
                reply tag .badValue [] s.received
              else
                let q : RouteRequest :=
                  { train := tr, route := r, waitLimit := wait.toNat, source := .mgmt
                    waitTimer := if wait.toNat = 0 then none else some (wait.toNat * 1000) }
                let t := reply tag .accepted [] { s.received with interlock := { s.interlock with queue := s.interlock.queue ++ [q] } }
                if s.mode = .run then
                  t.interlock.queue.foldl (fun u x => if grantable u x = true then grantRoute x u else u) t
                else t))
    ∧ (∀ (tag train : Byte) (s : State), s.ready →
         (7 < train.toNat → exec (.cancelRequest tag train) s = .next (reply tag .badIndex [] s.received))
           ∧ ∀ tr : TrainId, train.toNat = tr.val →
               (requestOfTrain s tr = none → exec (.cancelRequest tag train) s = .next (reply tag .notAvailable [] s.received))
                 ∧ ∀ q, requestOfTrain s tr = some q →
                     exec (.cancelRequest tag train) s = .next (reply tag .ok []
                       (raise .routeRefused tr.val (q.route.val * 256 + 3)
                         { s.received with interlock := { s.interlock with queue := s.interlock.queue.filter fun x => x.train ≠ tr } })))

/-- R53: a request is grantable exactly where the part mode is RUN, the Loop Monitor QUALIFIED, every block of the route enabled, unheld and
detected CLEAR, the lengthened reserved list at most 8 blocks, and every listed turnout enabled, unlocked and in a block of the route. R54,
R44, R48: what a grant does. The blocks are appended to the train's reserved list and held RESERVED; a crossing block in IDLE warns, or is
ACTIVE at warn time 0. A listed turnout is locked with the listed position commanded: SET without a throw where it is FREE in that position
and, with feedback, its indication shows it (R39), else MOVING with its throw timer started and its SWITCH offered; every waiting SWITCH for
a locked turnout is purged. The count is that of R49 and P follows it, the target is the cruise step, the request leaves the queue, and
ROUTE_GRANTED is raised and delivered to the Cue Engine. Other trains, blocks and turnouts stay. R52, R53: a DISPATCH accepted in RUN is
answered ACCEPTED, and the queue with it as the newest request is served from oldest to newest, each request granted where it is grantable
on the state the grants before it left, and kept in its place where not. -/
def Obligations.GrantReservesTheRoute : Prop :=
  (∀ (s : State) (q : RouteRequest),
     grantable s q = true ↔
       s.mode = .run ∧ s.loop.state = .qualified
         ∧ (∀ b ∈ (s.routeEntry q.route).blocks,
             (s.blockEntry b).enabled = true ∧ (s.block b).holding = none ∧ (s.block b).detection = .clear)
         ∧ (s.path q.train).reserved.length + (s.routeEntry q.route).blocks.length ≤ 8
         ∧ ∀ p ∈ (s.routeEntry q.route).turnouts, (s.turnoutEntry p.1).enabled = true ∧ (s.turnout p.1).lock = none
             ∧ (s.turnoutEntry p.1).block ∈ (s.routeEntry q.route).blocks)
    ∧ (∀ (q : RouteRequest) (s : State), grantable s q = true → s.trackSafe → ((s.routeEntry q.route).turnouts.map Prod.fst).Nodup →
         let e := s.routeEntry q.route
         let t := grantRoute q s
         let feedback : SensorFunction → Prop := fun f => ∃ i, (s.sensorEntry i).enabled = true ∧ (s.sensorEntry i).function = f
         let shows : TurnoutId → Position → Prop := fun u p => match (s.turnout u).indication, p with
           | .normal, .normal => True
           | .reverse, .reverse => True
           | .none, .normal => feedback (.turnoutReverse u) ∧ ¬ feedback (.turnoutNormal u)
           | .none, .reverse => feedback (.turnoutNormal u) ∧ ¬ feedback (.turnoutReverse u)
           | _, _ => False
         let stands : TurnoutId → Position → Prop := fun u p =>
           (s.turnout u).condition = .free ∧ (s.turnout u).position = some p ∧ ((s.turnoutEntry u).feedback = false ∨ shows u p)
         let switches : TurnoutId → Frame → Prop := fun u f =>
           f.kind = kindSwitch ∧ f.dest.toNat = (s.turnoutEntry u).node ∧ n1 f.payload 0 = (s.turnoutEntry u).channel
         (∀ x, (t.path x).occupied = (s.path x).occupied
             ∧ (t.path x).reserved = if x = q.train then (s.path x).reserved ++ e.blocks else (s.path x).reserved)
           ∧ (∀ b, t.block b =
               if b ∈ e.blocks then
                 let warns := (s.blockEntry b).crossing = true ∧ (s.block b).crossing = .idle
                 { s.block b with
                   holding := some (q.train, .reserved)
                   crossing := if warns then (if (s.blockEntry b).warnTime = 0 then .active else .warning) else (s.block b).crossing
                   warnTimer :=
                     if warns ∧ (s.blockEntry b).warnTime ≠ 0 then some (s.blockEntry b).warnTime else (s.block b).warnTimer }
               else s.block b)
           ∧ (∀ u p, (u, p) ∈ e.turnouts →
               (stands u p → t.turnout u = { s.turnout u with lock := some q.train, commanded := some p, condition := .set }
                   ∧ ∀ f, (EngineKey.switch u, f) ∉ t.field.engine)
                 ∧ (¬ stands u p →
                     t.turnout u = { s.turnout u with
                       lock := some q.train, commanded := some p, condition := .moving, position := none
                       throwTimer := some (s.turnoutEntry u).throwLimit }
                       ∧ ((EngineKey.switch u, switchFrame (s.turnoutEntry u) p) ∈ t.field.engine
                         ∨ t.field.transmitting = some (.engine, switchFrame (s.turnoutEntry u) p)))
                 ∧ ∀ f ∈ t.field.pass, ¬ switches u f)
           ∧ (∀ f ∈ s.field.pass, (∀ p ∈ e.turnouts, ¬ switches p.1 f) → f ∈ t.field.pass ∨ t.field.transmitting = some (.pass, f))
           ∧ (∀ u, u ∉ e.turnouts.map Prod.fst → t.turnout u = s.turnout u)
           ∧ (t.path q.train).authorised = authorisedCount t q.train
           ∧ (∀ x, x ≠ q.train → t.train x = s.train x ∧ (t.path x).authorised = (s.path x).authorised)
           ∧ (t.train q.train).target = e.cruise ∧ (t.train q.train).step = (s.train q.train).step
           ∧ (t.train q.train).permitted =
               (if (t.path q.train).authorised = (s.path q.train).authorised then (s.train q.train).permitted else permittedStep t q.train)
           ∧ t.interlock.queue = s.interlock.queue.filter (fun r => r.train ≠ q.train)
           ∧ (let detail := q.route.val * 256 + [RequestSource.mgmt, .cue, .buttonCue].idxOf q.source
              t.report = (raise .routeGranted q.train.val detail s).report ∧ t.link = (raise .routeGranted q.train.val detail s).link)
           ∧ t.report.flags.getLsbD EventKind.routeGranted.code = true
           ∧ (s.cues.pendingEvents.length < 32 →
               t.cues.pendingEvents = s.cues.pendingEvents ++ [deviceEvent (.routeGranted q.train)])
           ∧ OnlyChanges [.link, .sOut, .report, .blocks, .turnouts, .paths, .queue, .trains, .output, .fOut, .events, .blockCounters] s t)
    ∧ ∀ (tag train route : Byte) (wait : BitVec 16) (tr : TrainId) (r : RouteId) (s : State),
        s.ready → s.mode = .run → train.toNat = tr.val → route.toNat = r.val →
        (s.routeEntry r).enabled = true → wait.toNat ≤ 600 → (s.train tr).condition.isLocated = true → requestOfTrain s tr = none →
        ((s.path tr).reserved.getLast?.or (s.path tr).occupied.head?) = some (s.routeEntry r).start →
        let q : RouteRequest :=
          { train := tr, route := r, waitLimit := wait.toNat, source := .mgmt
            waitTimer := if wait.toNat = 0 then none else some (wait.toNat * 1000) }
        exec (.dispatch tag train route wait) s = .next
          ((s.interlock.queue ++ [q]).foldl (fun u x => if grantable u x = true then grantRoute x u else u)
            (reply tag .accepted [] { s.received with interlock := { s.interlock with queue := s.interlock.queue ++ [q] } }))

/-- R63, R88: LOCATE in HOLD places a LOST train in 1 to 4 enabled, OCCUPIED blocks that no other train holds: they are its occupied list,
held OCCUPIED by it, their crossings ACTIVE; its reserved list is empty and its count 0; it is STOPPED at the far end of its head, with the
larger miss allowance and auto-location disarmed. The other refusals are answered in the rule's order. A train index above 7 or a block
index above 47 is refused with BAD_INDEX. -/
def Obligations.LocatePlacesALostTrain : Prop :=
  (∀ (tag : Byte) (tr : TrainId) (bs : List BlockId) (s : State), s.ready → s.trackSafe →
     (s.mode ≠ .hold → exec (.locate tag (byte tr.val) (bs.map fun b => byte b.val)) s = .next (reply tag .wrongMode [] s.received))
       ∧ (s.mode = .hold → bs = [] ∨ 4 < bs.length ∨ ¬ bs.Nodup →
           exec (.locate tag (byte tr.val) (bs.map fun b => byte b.val)) s = .next (reply tag .badValue [] s.received))
       ∧ (s.mode = .hold → bs ≠ [] → bs.length ≤ 4 → bs.Nodup →
           ((s.train tr).condition ≠ .lost
             ∨ ∃ b ∈ bs, (s.blockEntry b).enabled = false ∨ (s.block b).detection ≠ .occupied
                 ∨ ∃ h, (s.block b).holding = some h ∧ h.1 ≠ tr) →
           exec (.locate tag (byte tr.val) (bs.map fun b => byte b.val)) s = .next (reply tag .notAvailable [] s.received))
       ∧ (s.mode = .hold → bs ≠ [] → bs.length ≤ 4 → bs.Nodup → (s.train tr).condition = .lost →
           (∀ b ∈ bs, (s.blockEntry b).enabled = true ∧ (s.block b).detection = .occupied
             ∧ ∀ h, (s.block b).holding = some h → h.1 = tr) →
           ∃ t : State, exec (.locate tag (byte tr.val) (bs.map fun b => byte b.val)) s = .next (reply tag .ok [] t)
             ∧ (∀ x, t.path x = if x = tr then { occupied := bs, reserved := [], authorised := 0 } else s.path x)
             ∧ (∀ b, b ∈ bs → (t.block b).holding = some (tr, .occupied)
                 ∧ ((s.blockEntry b).crossing = true → (t.block b).crossing = .active ∧ (t.block b).warnTimer = none))
             ∧ (∀ b, b ∉ bs → (t.block b).holding = if b ∈ (s.path tr).occupied then none else (s.block b).holding)
             ∧ (∀ x, x ≠ tr → t.train x = s.train x)
             ∧ (t.train tr).condition = .stopped ∧ (t.train tr).step = 0 ∧ (t.train tr).target = 0 ∧ (t.train tr).guided = 0
             ∧ (t.train tr).accumulator = 0 ∧ (t.train tr).ramp = .none ∧ (t.train tr).carry = 0 ∧ (t.train tr).unseen = 0
             ∧ (t.train tr).armed = false
             ∧ (∀ b, bs.head? = some b → (t.train tr).position = (s.blockEntry b).length * 1000
                 ∧ (t.train tr).missAllowance = (s.trainEntry tr).missDistance * 1000 + (s.blockEntry b).length * 1000)
             ∧ OnlyChanges [.sIn, .blocks, .turnouts, .paths, .trains] s t))
    ∧ ∀ (tag train : Byte) (blocks : List Byte) (s : State), s.ready → (7 < train.toNat ∨ ∃ b ∈ blocks, 47 < b.toNat) →
        exec (.locate tag train blocks) s = .next (reply tag .badIndex [] s.received)

/-- R64, R84: REMOVE of a LOST, STOPPED or HALTED train gives up every block of both its lists and its pending request and makes it LOST
with auto-location disarmed and TRAIN_LOST latched; it is refused with NOT_AVAILABLE for an ABSENT, RUNNING or BRAKING train. In RUN, where
it gave up a block, the Route Queue is then served from oldest to newest, ahead of the reply (R53). For a train index above 7 it is refused
with BAD_INDEX. -/
def Obligations.RemoveGivesUpATrainsBlocks : Prop :=
  (∀ (tag : Byte) (tr : TrainId) (s : State), s.ready → s.trackSafe →
     ((s.train tr).condition = .absent ∨ (s.train tr).condition = .running ∨ (s.train tr).condition = .braking →
         exec (.remove tag (byte tr.val)) s = .next (reply tag .notAvailable [] s.received))
       ∧ ((s.train tr).condition = .lost ∨ (s.train tr).condition = .stopped ∨ (s.train tr).condition = .halted →
           ∃ t : State, exec (.remove tag (byte tr.val)) s = .next (reply tag .ok []
               (if s.mode = .run ∧ ((s.path tr).occupied ≠ [] ∨ (s.path tr).reserved ≠ []) then
                 t.interlock.queue.foldl (fun u q => if grantable u q = true then grantRoute q u else u) t
               else t))
             ∧ (∀ x, t.path x = if x = tr then { occupied := [], reserved := [], authorised := 0 } else s.path x)
             ∧ (∀ b, (t.block b).holding =
                 if b ∈ (s.path tr).occupied ∨ b ∈ (s.path tr).reserved then none else (s.block b).holding)
             ∧ t.interlock.queue = s.interlock.queue.filter (fun q => q.train ≠ tr)
             ∧ (t.train tr).condition = .lost ∧ (t.train tr).cause = none ∧ (t.train tr).step = 0 ∧ (t.train tr).target = 0
             ∧ (t.train tr).guided = 0 ∧ (t.train tr).calibration = none ∧ (t.train tr).armed = false
             ∧ (∀ x, x ≠ tr → t.train x = s.train x)
             ∧ t.report.flags.getLsbD EventKind.trainLost.code = true
             ∧ OnlyChanges [.sIn, .blocks, .turnouts, .paths, .queue, .trains, .output, .fOut, .link, .sOut, .report] s t))
    ∧ ∀ (tag train : Byte) (s : State), s.ready → 7 < train.toNat →
        exec (.remove tag train) s = .next (reply tag .badIndex [] s.received)

/-- R43, R40: TURNOUT RETRY of an enabled FAULT turnout on a QUALIFIED ring throws it to its commanded position: MOVING, position UNKNOWN,
the throw timer started for the throw limit, the SWITCH offered under its key, the lock kept. (To which position, where the turnout has
never been thrown, the manual does not say: log entry 19.) It is refused with NOT_AVAILABLE for a turnout that is disabled or not FAULT,
then with NOT_READY while the ring is not QUALIFIED. R65: CLEAR BLOCK of an intruded block that is detected CLEAR clears the flag and
recomputes its holder's authorised count; otherwise it is refused with NOT_AVAILABLE. A turnout index above 15 or a block index above 47 is
refused with BAD_INDEX. -/
def Obligations.RetryThrowsAndClearBlockRestores : Prop :=
  (∀ (tag : Byte) (u : TurnoutId) (s : State), s.ready →
     ((s.turnoutEntry u).enabled = false ∨ (s.turnout u).condition ≠ .fault →
         exec (.turnoutRetry tag (byte u.val)) s = .next (reply tag .notAvailable [] s.received))
       ∧ ((s.turnoutEntry u).enabled = true → (s.turnout u).condition = .fault → s.qualified = false →
           exec (.turnoutRetry tag (byte u.val)) s = .next (reply tag .notReady [] s.received))
       ∧ ((s.turnoutEntry u).enabled = true → (s.turnout u).condition = .fault → s.qualified = true →
           ∃ p : Position, (∀ c, (s.turnout u).commanded = some c → p = c) ∧
           exec (.turnoutRetry tag (byte u.val)) s = .next (reply tag .ok []
             ({ s.received with field := FieldPort.grant { s.field with
                 engine := keyedOffer s.field.engine (.switch u)
                   { dest := byte (s.turnoutEntry u).node, src := 0, kind := 0x30,
                     payload := [byte (s.turnoutEntry u).channel, byte p.code] } } }.updTurnout u fun x =>
               { x with
                 condition := .moving, position := none, commanded := some p
                 throwTimer := some (s.turnoutEntry u).throwLimit }))))
    ∧ (∀ (tag : Byte) (b : BlockId) (s : State), s.ready →
         ((s.block b).intruded = false ∨ (s.block b).detection ≠ .clear →
             exec (.clearBlock tag (byte b.val)) s = .next (reply tag .notAvailable [] s.received))
           ∧ ((s.block b).intruded = true → (s.block b).detection = .clear →
               ∃ t : State, exec (.clearBlock tag (byte b.val)) s = .next (reply tag .ok [] t)
                 ∧ (∀ c, t.block c = if c = b then { s.block b with intruded := false } else s.block c)
                 ∧ (∀ tr, (t.path tr).occupied = (s.path tr).occupied ∧ (t.path tr).reserved = (s.path tr).reserved)
                 ∧ (∀ tr role, (s.block b).holding = some (tr, role) → (t.path tr).authorised = authorisedCount t tr)
                 ∧ OnlyChanges [.sIn, .blocks, .paths, .trains] s t))
    ∧ ∀ (tag subject : Byte) (s : State), s.ready →
        (15 < subject.toNat → exec (.turnoutRetry tag subject) s = .next (reply tag .badIndex [] s.received))
          ∧ (47 < subject.toNat → exec (.clearBlock tag subject) s = .next (reply tag .badIndex [] s.received))

/-- R45, R44: a host SWITCH on a QUALIFIED ring. One that matches no enabled turnout is handed on unchanged; one for a locked turnout is
dropped with SWITCH_REFUSED and the event raised with the lock holder; one for an unlocked turnout is handed on, and the turnout is MOVING
toward the frame's position with its throw timer started and no SWITCH of the part's own. -/
def Obligations.HostSwitchThrowsUnlockedTurnouts : Prop :=
  ∀ (dest : Byte) (channel position : Byte) (s : State), 1 ≤ dest.toNat → dest.toNat ≤ 96 → s.mode ≠ .starting → s.qualified = true →
    s.settled →
    let f : Frame := { dest := dest, src := 126, kind := kindSwitch, payload := [channel, position] }
    let s1 := s.countSIn PortTotals.addGood
    (turnoutAt s.tables dest.toNat channel.toNat = none → exec (.hostSwitch dest [channel, position]) s = .next (handOn f s1))
      ∧ ∀ u, turnoutAt s.tables dest.toNat channel.toNat = some u →
          (∀ tr, (s.turnout u).lock = some tr →
              exec (.hostSwitch dest [channel, position]) s = .next (raise .switchRefused u.val tr.val (s1.dropSIn .switchRefused)))
            ∧ ((s.turnout u).lock = none →
                exec (.hostSwitch dest [channel, position]) s = .next (handOn f (s1.updTurnout u fun x =>
                  { x with
                    condition := .moving, position := none, throwTimer := some (s.turnoutEntry u).throwLimit
                    commanded := some (if position = 0 then .normal else .reverse) })))

/-! ## Train Motion (Chapter 4) -/

/-- R72: the permitted step is 0 where motion is not permitted or the train is not located. Otherwise it is at most 126 and at most the
speed cap of every occupied block; at it the train can stop its stop margin short of the end of its remaining authority, unless it is 0; and
it is the greatest such step that also lets the train come down to the cap of each authorised block ahead. R71: for D a divisor of 50 the
braking distance is exactly the sum of the advances of R70 over the ramp, j × K × 5 quarter-micrometres in each of the 50 ÷ D updates at
every step j; B(0) is 0, and B does not fall as the step rises. -/
def Obligations.PermittedStepIsTheGreatestSafeStep : Prop :=
  (∀ (s : State) (tr : TrainId),
     (motionPermitted s = true ↔ (s.mode = .run ∨ s.mode = .holding) ∧ s.loop.state = .qualified)
       ∧ distanceToHeadEnd s tr = ((s.path tr).occupied.head?.elim 0 fun b => (s.blockEntry b).length * 1000) - (s.train tr).position
       ∧ authorisedBlocks s tr = (s.path tr).reserved.take (s.path tr).authorised
       ∧ (∀ bs : List BlockId, totalLength s bs = (bs.map fun b => (s.blockEntry b).length * 1000).sum)
       ∧ remainingAuthority s tr = distanceToHeadEnd s tr + totalLength s (authorisedBlocks s tr)
       ∧ (∀ v, trainBraking s tr v = brakingDistance (s.trainEntry tr).speedScale (s.trainEntry tr).deceleration v)
       ∧ (motionPermitted s = false ∨ (s.train tr).condition.isLocated = false → permittedStep s tr = 0)
       ∧ permittedStep s tr ≤ 126
       ∧ (motionPermitted s = true → (s.train tr).condition.isLocated = true →
           (∀ b ∈ (s.path tr).occupied, permittedStep s tr ≤ (s.blockEntry b).speedCap)
             ∧ (0 < permittedStep s tr →
                 trainBraking s tr (permittedStep s tr) + (s.trainEntry tr).stopMargin * 1000 ≤ remainingAuthority s tr)
             ∧ (∀ i b, (authorisedBlocks s tr)[i]? = some b →
                 0 < permittedStep s tr → trainBraking s tr (permittedStep s tr) ≤ trainBraking s tr (s.blockEntry b).speedCap
                   + distanceToHeadEnd s tr + totalLength s ((authorisedBlocks s tr).take i))
             ∧ ∀ v, permittedStep s tr < v → v ≤ 126 →
                 (∃ b ∈ (s.path tr).occupied, (s.blockEntry b).speedCap < v)
                   ∨ remainingAuthority s tr < trainBraking s tr v + (s.trainEntry tr).stopMargin * 1000
                   ∨ ∃ i b, (authorisedBlocks s tr)[i]? = some b ∧
                       trainBraking s tr (s.blockEntry b).speedCap + distanceToHeadEnd s tr
                         + totalLength s ((authorisedBlocks s tr).take i) < trainBraking s tr v))
    ∧ (∀ k d n : Nat, 0 < d →
         (d ∣ 50 → brakingDistance k d n = ((List.range (n + 1)).map fun j => 50 / d * (j * k * 5)).sum / 4)
           ∧ brakingDistance k d 0 = 0 ∧ ∀ m, n ≤ m → brakingDistance k d n ≤ brakingDistance k d m)

/-- R69, R70, R73 to R75, R82, R92: a motion update restarts the 20 ms timer and passes over every train that is not located. A located
train takes the advance of step × K × 5 quarter-micrometres, the carry included. Past the end of its head block its position is held there
and the rest is added to the unseen distance, and once that exceeds the miss allowance it is HALTED with cause MISS. Else it takes its
permitted step of R72 (0 in HOLD, and while the ring is not QUALIFIED), then the ramp and the state of R73 toward E, the least of its target
(or guided value, or calibration step; 0 in HOLDING) and P: from rest a jump to the start step where E allows it, else a rise or fall by
each whole 50 in the accumulator, and from below the start step to 0 where E is 0. If it would then run with no authority left it is HALTED
with cause OVERRUN. If it comes to rest with no reserved block it has arrived: TRAIN_ARRIVED is latched and delivered to the Cue Engine, and
its target becomes 0. Where the step changed its DRIVE is offered and its refresh restarts (R75); a halt queues the emergency DRIVE; and a
calibration transit counts the update or is abandoned. HOLDING becomes HOLD, with HOLD_REACHED, exactly when every step is 0 (that P is 0
from then on is R82). R47, R53, R56: a halt releases the reserved blocks and removes the train's request; where it released one, the
requests that then wait are served from oldest to newest. Each train is updated so in turn (in ascending index, log entry 37); where no
request waits or no train halts, each moves by the state that the update found. -/
def Obligations.MotionUpdateMovesEachTrain : Prop :=
  let moves : State → State → TrainId → Prop := fun s t tr =>
    ((s.train tr).condition.isLocated = false →
        t.train tr = { s.train tr with permitted := if t.mode = s.mode then (s.train tr).permitted else 0 } ∧ t.path tr = s.path tr)
    ∧ ((s.train tr).condition.isLocated = true →
        let stopped : HaltCause → Prop := fun cause =>
          (t.train tr).condition = .halted ∧ (t.train tr).cause = some cause ∧ (t.train tr).step = 0
            ∧ (t.path tr).reserved = [] ∧ (t.path tr).occupied = (s.path tr).occupied ∧ (t.train tr).refreshTimer = some 1000
            ∧ (∀ b ∈ (s.path tr).reserved, (t.block b).holding = none)
            ∧ ((.emergencyDrive tr, driveFrame (s.trainEntry tr) 0 true) ∈ t.field.urgent
              ∨ t.field.transmitting = some (.urgent, driveFrame (s.trainEntry tr) 0 true))
            ∧ t.report.flags.getLsbD EventKind.trainHalted.code = true
        let x := (s.train tr).step * (s.trainEntry tr).speedScale * 5 + (s.train tr).carry
        let front := (s.train tr).position + x / 4
        let past := headLength s tr < front
        let position := if past then headLength s tr else front
        let unseen := if past then (s.train tr).unseen + (front - headLength s tr) else (s.train tr).unseen
        (past → (s.train tr).missAllowance < unseen →
            stopped .miss ∧ (t.train tr).position = headLength s tr ∧ (t.train tr).carry = x % 4)
          ∧ (¬ (past ∧ (s.train tr).missAllowance < unseen) →
              let a := s.updTrain tr fun r => { r with position := position, unseen := unseen, carry := x % 4 }
              let p := permittedStep a tr
              let base := if s.mode = .holding then 0 else match (s.trainEntry tr).mode with
                | .auto => (s.train tr).target
                | .guided => (s.train tr).guided
              let e := min (match (s.trainEntry tr).mode, (s.train tr).calibration with
                | .auto, some c => min base c.step
                | _, _ => base) p
              let old := (s.train tr).step
              let start := (s.trainEntry tr).startStep
              let jumps := old = 0 ∧ 0 < start
              let up := (if (s.train tr).ramp = .down then 0 else (s.train tr).accumulator) + (s.trainEntry tr).acceleration
              let down := (if (s.train tr).ramp = .up then 0 else (s.train tr).accumulator) + (s.trainEntry tr).deceleration
              let rise := min (up / 50) (e - old)
              let fall := min (down / 50) (old - e)
              let new :=
                if old < e then (if jumps then (if start ≤ e then start else 0) else old + rise)
                else if e < old then (if e = 0 ∧ old - fall < start then 0 else old - fall)
                else old
              let accumulator :=
                if new = e then 0
                else if old < e then (if jumps then 0 else up - 50 * rise)
                else down - 50 * fall
              let arrives := 0 < old ∧ new = 0 ∧ (s.path tr).reserved = []
              if remainingAuthority a tr = 0 ∧ 0 < new then stopped .overrun
              else (t.train tr).position = position ∧ (t.train tr).carry = x % 4 ∧ (t.train tr).unseen = unseen
                ∧ (t.train tr).permitted = (if t.mode = .hold then 0 else p) ∧ (t.train tr).step = new
                ∧ (t.train tr).accumulator = accumulator
                ∧ (t.train tr).ramp = (if old < e then .up else if e < old then .down else (s.train tr).ramp)
                ∧ (t.train tr).condition = (if new = 0 ∧ e = 0 then .stopped else if p < old ∨ p < new then .braking else .running)
                ∧ (t.train tr).refreshTimer = (if new = old then (s.train tr).refreshTimer else some 1000)
                ∧ (new ≠ old → (EngineKey.drive tr, driveFrame (s.trainEntry tr) new false) ∈ t.field.engine
                    ∨ t.field.transmitting = some (.engine, driveFrame (s.trainEntry tr) new false))
                ∧ (t.train tr).target = (if arrives then 0 else (s.train tr).target)
                ∧ (arrives → t.report.flags.getLsbD EventKind.trainArrived.code = true
                    ∧ (s.mode ≠ .starting → s.cues.pendingEvents.length ≤ 24 → deviceEvent (.trainArrived tr) ∈ t.cues.pendingEvents))
                ∧ (t.train tr).calibration = (s.train tr).calibration.map (fun c =>
                    if c.entryTime = none then c
                    else if (s.train tr).step = c.step then { c with updates := c.updates + 1 } else { c with entryTime := none })
                ∧ t.path tr = s.path tr))
  let rest : State → State → TrainId → Prop := fun s t tr => ∀ x, x ≠ tr →
    t.train x = { s.train x with permitted := if t.mode = s.mode then (s.train x).permitted else 0 } ∧ t.path x = s.path x
  let parts : List Part :=
    [.trains, .output, .fOut, .blocks, .turnouts, .paths, .queue, .events, .blockCounters, .link, .sOut, .report, .mode]
  (∀ (s : State) (d : Nat), s.motion.updateTimer = some d → s.settled → s.trackSafe →
     ∃ t : State, exec .motionUpdate s = .next t ∧ t.motion.updateTimer = some 20
       ∧ (s.mode ≠ .holding → t.mode = s.mode)
       ∧ (s.mode = .holding → ((∀ x, (t.train x).step = 0) → t.mode = .hold ∧ t.report.flags.getLsbD EventKind.holdReached.code = true)
           ∧ (¬ (∀ x, (t.train x).step = 0) → t.mode = .holding))
       ∧ OnlyChanges (.motionTimer :: parts) s t
       ∧ (s.interlock.queue = [] ∨ (∀ x, (s.train x).condition.isLocated = true → (t.train x).condition ≠ .halted) →
           t.interlock.queue = s.interlock.queue ∧ ∀ tr, moves s t tr))
    ∧ (∀ s : State, s.motion.updateTimer ≠ none → exec .motionUpdate s = .next
         ((List.finRange 8).foldl (fun u x => updateTrain x u) { s with motion := { s.motion with updateTimer := some 20 } }))
    ∧ ∀ (s : State) (tr : TrainId), s.settled → s.trackSafe →
        let t := updateTrain tr s
        t.settled
          ∧ ((s.train tr).condition.isLocated = true ∧ (t.train tr).condition = .halted →
              ∃ h : State, moves s h tr ∧ rest s h tr ∧ OnlyChanges parts s h
                ∧ h.interlock.queue = s.interlock.queue.filter (fun q => q.train ≠ tr)
                ∧ ((requestOfTrain s tr).isSome = true → h.report.flags.getLsbD EventKind.routeRefused.code = true)
                ∧ t = if (s.path tr).reserved = [] then h
                    else h.interlock.queue.foldl (fun u q => if grantable u q = true then grantRoute q u else u) h)
          ∧ (¬ ((s.train tr).condition.isLocated = true ∧ (t.train tr).condition = .halted) →
              moves s t tr ∧ rest s t tr ∧ OnlyChanges parts s t ∧ t.interlock.queue = s.interlock.queue)

/-- R75, R137: on the expiry of a refresh timer an ordinary DRIVE, or a ROTOR, with the present step is offered under its key and the timer
restarts for 1000 ms; the step and all else stay. R80: on the expiry of a train's guide timer the guided value becomes 0 and GUIDE_TIMEOUT
is raised with the train as subject. R115, R121: the expiry of a STREET channel's stagger timer stops it and changes the state where the
switching condition holds with the present sky level. The expiry of an override timer makes the override absent and keeps the output. R147,
R148: the expiry of a window timer discards the open pair and keeps the count; that of a hold-off timer rearms the cue with count 0. -/
def Obligations.TimersOfOneSubjectExpire : Prop :=
  ((∀ (tr : TrainId) (d : Nat) (s : State), (s.train tr).refreshTimer = some d →
       exec (.trainRefreshExpiry tr) s = .next
         ({ s with field := FieldPort.grant { s.field with
             engine := keyedOffer s.field.engine (.drive tr)
               { dest := byte (s.trainEntry tr).node, src := 0, kind := 0x10,
                 payload := [byte (s.trainEntry tr).channel, if (s.trainEntry tr).direction = Direction.reverse then 1 else 0,
                   byte (s.train tr).step] } } }.updTrain tr fun r => { r with refreshTimer := some 1000 }))
     ∧ ∀ (ro : RotorId) (d : Nat) (s : State), (s.rotor ro).refreshTimer = some d →
         exec (.rotorRefreshExpiry ro) s = .next
           ({ s with field := FieldPort.grant { s.field with
               engine := keyedOffer s.field.engine (.rotor ro)
                 { dest := byte (s.rotorEntry ro).node, src := 0, kind := 0x40,
                   payload := [byte (s.rotorEntry ro).channel, if (s.rotorEntry ro).direction = Direction.reverse then 1 else 0,
                     byte (s.rotor ro).step] } } }.updRotor ro fun x => { x with refreshTimer := some 1000 }))
    ∧ (∀ (tr : TrainId) (d : Nat) (s : State), (s.train tr).guideTimer = some d →
         exec (.guideTimerExpiry tr) s = .next
           (raise .guideTimeout tr.val 0xFFFF (s.updTrain tr fun r => { r with guided := 0, guideTimer := none })))
    ∧ ((∀ (c : ChannelId) (d on off stagger : Nat) (s : State), (s.channel c).staggerTimer = some d →
           (s.patchEntry c).kind = .street on off stagger →
           exec (.staggerTimerExpiry c) s = .next (s.updChannel c fun x =>
             { x with staggerTimer := none, lit := if (if x.lit then off ≤ s.clock.sky else s.clock.sky ≤ on) then !x.lit else x.lit }))
         ∧ ∀ (c : ChannelId) (d : Nat) (s : State), (s.channel c).overrideTimer = some d →
             exec (.overrideTimerExpiry c) s = .next (s.updChannel c fun x => { x with override := none, overrideTimer := none }))
    ∧ ((∀ (k : CueId) (d : Nat) (s : State), (s.cue k).windowTimer = some d →
           exec (.windowTimerExpiry k) s = .next (s.updCue k fun x => { x with stage := .waitA, openHalf := none, windowTimer := none }))
         ∧ (∀ (k : CueId) (d : Nat) (s : State), (s.cue k).holdOffTimer = some d →
             exec (.holdOffTimerExpiry k) s = .next (s.updCue k fun x => { x with stage := .waitA, count := 0, holdOffTimer := none })))

/-- R79: a host DRIVE on a QUALIFIED ring. With no matching train it is handed on unchanged; for an AUTO train it is dropped with
GUIDE_REFUSED; for a GUIDED train it is consumed, its step, at most 126, is the guided value, and the guide timer restarts where there is a
timeout. With the emergency flag the guided value is 0, and a located train's step, accumulator and ramp go to 0 at once, its state is
STOPPED and its emergency DRIVE is queued. -/
def Obligations.HostDriveGuidesGuidedTrains : Prop :=
  ∀ (dest channel flags level : Byte) (s : State), 1 ≤ dest.toNat → dest.toNat ≤ 96 → s.mode ≠ .starting → s.qualified = true → s.settled →
    let f : Frame := { dest := dest, src := 126, kind := kindDrive, payload := [channel, flags, level] }
    (trainAt s.tables dest.toNat channel.toNat = none →
        exec (.hostDrive dest [channel, flags, level]) s = .next (handOn f (s.countSIn PortTotals.addGood)))
      ∧ ∀ tr, trainAt s.tables dest.toNat channel.toNat = some tr →
          ((s.trainEntry tr).mode = .auto →
              exec (.hostDrive dest [channel, flags, level]) s = .next ((s.countSIn PortTotals.addGood).dropSIn .guideRefused))
            ∧ ((s.trainEntry tr).mode = .guided → flags.getLsbD 1 = false →
                exec (.hostDrive dest [channel, flags, level]) s = .next (s.received.updTrain tr fun r =>
                  { r with
                    guided := min level.toNat 126
                    guideTimer :=
                      if (s.trainEntry tr).guideTimeout = 0 then r.guideTimer else some (s.trainEntry tr).guideTimeout }))
            ∧ ((s.trainEntry tr).mode = .guided → flags.getLsbD 1 = true →
                ∃ t : State, exec (.hostDrive dest [channel, flags, level]) s = .next t
                  ∧ t.counters.sIn = s.received.counters.sIn ∧ (t.train tr).guided = 0
                  ∧ (if (s.train tr).condition.isLocated
                      then (t.train tr).condition = .stopped ∧ (t.train tr).step = 0 ∧ (t.train tr).accumulator = 0
                        ∧ (t.train tr).ramp = .none
                        ∧ ((.emergencyDrive tr, driveFrame (s.trainEntry tr) 0 true) ∈ t.field.urgent
                          ∨ t.field.transmitting = some (.urgent, driveFrame (s.trainEntry tr) 0 true))
                        ∧ ∀ g, (EngineKey.drive tr, g) ∉ t.field.engine
                      else (t.train tr).condition = (s.train tr).condition ∧ t.field = s.field)
                  ∧ OnlyChanges [.sIn, .trains, .output, .fOut, .mode, .link, .sOut, .report] s t)

/-- R81: SET TRAIN MODE changes the mode field of the train's entry, clears the guided value and the guide timer, and toward GUIDED removes
a pending calibration; to the mode the train has it changes nothing. An ABSENT train is refused with NOT_AVAILABLE, a mode above 1 with
BAD_VALUE. R86: CLEAR HALT of a HALTED train whose occupied blocks are all detected OCCUPIED makes it STOPPED with no cause, step, target,
guided value and unseen distance 0 and the miss allowance at the miss distance, its position kept; otherwise it is refused with
NOT_AVAILABLE, and for a train above 7 with BAD_INDEX. R91: CALIBRATE sets the train's calibration to the block and the step with no entry
time and no updates counted, replacing a pending one, and is answered ACCEPTED; CANCEL CALIBRATION removes it. The refusals are in the
rule's order. A train index above 7 is refused with BAD_INDEX before every other check. -/
def Obligations.TrainRequestsActOnOneTrain : Prop :=
  (∀ (tag mode : Byte) (tr : TrainId) (s : State), s.ready →
     (1 < mode.toNat → exec (.setTrainMode tag (byte tr.val) mode) s = .next (reply tag .badValue [] s.received))
       ∧ ∀ m : TrainMode, mode.toNat = (if m = .auto then 0 else 1) →
           exec (.setTrainMode tag (byte tr.val) mode) s = .next
             (if (s.train tr).condition = .absent then reply tag .notAvailable [] s.received
              else if (s.trainEntry tr).mode = m then reply tag .ok [] s.received
              else reply tag .ok []
                ((s.received.updTrainEntry tr fun e => { e with mode := m }).updTrain tr fun r =>
                  { r with guided := 0, guideTimer := none, calibration := if m = .guided then none else r.calibration })))
    ∧ (∀ (tag train : Byte) (s : State), s.ready →
         (7 < train.toNat → exec (.clearHalt tag train) s = .next (reply tag .badIndex [] s.received))
           ∧ ∀ tr : TrainId, train.toNat = tr.val →
               exec (.clearHalt tag train) s = .next
                 (if (s.train tr).condition = .halted ∧ ∀ b ∈ (s.path tr).occupied, (s.block b).detection = .occupied then
                    reply tag .ok [] (s.received.updTrain tr fun r =>
                      { r with
                        condition := .stopped, cause := none, step := 0, target := 0, guided := 0, unseen := 0
                        missAllowance := (s.trainEntry tr).missDistance * 1000 })
                  else reply tag .notAvailable [] s.received))
    ∧ (∀ (tag block level : Byte) (tr : TrainId) (s : State), s.ready →
         (47 < block.toNat → exec (.calibrate tag (byte tr.val) block level) s = .next (reply tag .badIndex [] s.received))
           ∧ (∀ b : BlockId, block.toNat = b.val →
               exec (.calibrate tag (byte tr.val) block level) s = .next
                 (if level.toNat = 0 ∨ 126 < level.toNat ∨ (s.blockEntry b).enabled = false then reply tag .badValue [] s.received
                  else if (s.trainEntry tr).mode = .auto ∧ ((s.train tr).condition = .stopped ∨ (s.train tr).condition = .running) then
                    reply tag .accepted [] (s.received.updTrain tr fun r =>
                      { r with calibration := some { block := b, step := level.toNat, entryTime := none, updates := 0 } })
                  else reply tag .notAvailable [] s.received))
           ∧ exec (.cancelCalibration tag (byte tr.val)) s = .next
               (if (s.train tr).calibration = none then reply tag .notAvailable [] s.received
                else reply tag .ok [] (s.received.updTrain tr fun r => { r with calibration := none })))
    ∧ ∀ (tag train block level : Byte) (s : State), s.ready → 7 < train.toNat →
        exec (.setTrainMode tag train level) s = .next (reply tag .badIndex [] s.received)
          ∧ exec (.calibrate tag train block level) s = .next (reply tag .badIndex [] s.received)
          ∧ exec (.cancelCalibration tag train) s = .next (reply tag .badIndex [] s.received)

/-- R90, R88: REVERSE of a STOPPED train with no reserved block turns its occupied list round, removes its pending request, changes its
direction and places it at the far end of its new head; a running calibration transit ends without a result. Otherwise it is refused with
NOT_AVAILABLE. For a train index above 7 it is refused with BAD_INDEX. -/
def Obligations.ReverseTurnsTheTrainRound : Prop :=
  (∀ (tag : Byte) (tr : TrainId) (s : State), s.ready →
     (¬ ((s.train tr).condition = .stopped ∧ (s.path tr).reserved = []) →
         exec (.reverse tag (byte tr.val)) s = .next (reply tag .notAvailable [] s.received))
       ∧ ((s.train tr).condition = .stopped → (s.path tr).reserved = [] →
           ∃ t : State, exec (.reverse tag (byte tr.val)) s = .next (reply tag .ok [] t)
             ∧ (∀ x, t.path x = if x = tr then { s.path tr with occupied := (s.path tr).occupied.reverse } else s.path x)
             ∧ (∀ x, t.trainEntry x = if x = tr
                 then { s.trainEntry tr with direction := if (s.trainEntry tr).direction = .forward then Direction.reverse else Direction.forward }
                 else s.trainEntry x)
             ∧ t.interlock.queue = s.interlock.queue.filter (fun q => q.train ≠ tr)
             ∧ (∀ x, x ≠ tr → t.train x = s.train x)
             ∧ (∀ b, (s.path tr).occupied.getLast? = some b → t.train tr = { s.train tr with
                 condition := .stopped, step := 0, target := 0, guided := 0, accumulator := 0, ramp := .none, carry := 0, unseen := 0
                 armed := false, position := (s.blockEntry b).length * 1000
                 missAllowance := (s.trainEntry tr).missDistance * 1000 + (s.blockEntry b).length * 1000
                 calibration := (s.train tr).calibration.map fun c => { c with entryTime := none } })
             ∧ OnlyChanges [.sIn, .paths, .queue, .trainTable, .trains, .link, .sOut, .report] s t))
    ∧ ∀ (tag train : Byte) (s : State), s.ready → 7 < train.toNat →
        exec (.reverse tag train) s = .next (reply tag .badIndex [] s.received)

/-- R85, R83, R134, R159: STOP ALL, and a host ALLSTOP past the screens, queue an ALLSTOP, halt with cause STOP_ALL every located train,
giving up its reserved blocks, and every rotor that turns or stands homed, an emergency DRIVE and a ROTOR of step 0 waiting for each, and
set the part mode to HOLD, whatever the ring's state. Trains and rotors already halted keep their causes, and LOST, ABSENT and UNHOMED ones
are not changed. STOP ALL is answered OK; the host frame is consumed. -/
def Obligations.StopAllHaltsEverything : Prop :=
  ∀ s : State, s.trackSafe →
    let stops : State → Prop := fun t =>
      t.mode = .hold
        ∧ (∀ tr, if (s.train tr).condition.isLocated
            then (t.train tr).condition = .halted ∧ (t.train tr).cause = some .stopAll ∧ (t.train tr).step = 0
              ∧ (t.path tr).reserved = [] ∧ (t.path tr).occupied = (s.path tr).occupied
              ∧ (.emergencyDrive tr, driveFrame (s.trainEntry tr) 0 true) ∈ t.field.urgent ∧ (t.train tr).refreshTimer = some 1000
            else (t.train tr).condition = (s.train tr).condition ∧ (t.train tr).cause = (s.train tr).cause
              ∧ (t.train tr).step = (s.train tr).step ∧ t.path tr = s.path tr)
        ∧ (∀ r, if (s.rotor r).condition.isTurning ∨ (s.rotor r).condition = .stopped
            then (t.rotor r).condition = .halted ∧ (t.rotor r).cause = some .stopAll ∧ (t.rotor r).step = 0
              ∧ (.rotor r, rotorFrame (s.rotorEntry r) 0) ∈ t.field.engine ∧ (t.rotor r).refreshTimer = some 1000
            else t.rotor r = s.rotor r)
        ∧ ((.allStop, allStopFrame) ∈ t.field.urgent ∨ t.field.transmitting = some (.urgent, allStopFrame))
        ∧ (∀ f ∈ t.field.pass, f.isMotion = false) ∧ (∀ tr f, (EngineKey.drive tr, f) ∉ t.field.engine)
        ∧ OnlyChanges [.sIn, .output, .fOut, .blocks, .turnouts, .paths, .queue, .serviceDue, .trains, .rotors, .mode, .link, .sOut,
            .report] s t
    (∀ tag, s.ready → ∃ t : State, exec (.stopAll tag) s = .next (reply tag .ok [] t) ∧ stops t)
      ∧ ∀ (dest : Byte) (payload : List Byte), (1 ≤ dest.toNat ∧ dest.toNat ≤ 96 ∨ dest = 127) → s.mode ≠ .starting →
          ∃ t : State, exec (.hostAllstop dest payload) s = .next t ∧ stops t ∧ t.counters.sIn = s.received.counters.sIn

/-! ## The Day Clock and Light Conditions (Chapter 5) -/

/-- R96 to R98, R103: one expiry of the 1 ms timer. With n = (Q + fraction) ÷ 16 the clock advances by n, by n plus the lesser of n and a
remainder above 0, or by n less the lesser of n − n ÷ 2 and the magnitude of a remainder below 0; the remainder is lowered by what was added
or withheld, and ends with SLEW_DONE when it reaches 0. The time wraps at 86 400 000 with the day number, S is the sky level of the new
second, and a whole minute passed is delivered to the Cue Engine as MINUTE. (That the SLEW_DONE stamp shows the new time is the model's
reading, log entry 22; that `now` advances here is log entry 5.) -/
def Obligations.DayClockTickAdvancesTheTime : Prop :=
  ∀ (s : State) (d a : Nat) (left : Option Int),
    s.clock.tickTimer = some d → s.clock.rate ≤ 65535 → s.clock.fraction ≤ 15 →
    let n := (s.clock.rate + s.clock.fraction) / 16
    let v := s.clock.virtualTime
    (s.clock.slew = none ∧ a = n ∧ left = none
      ∨ (∃ r : Nat, 0 < r ∧ s.clock.slew = some (r : Int) ∧ a = n + min n r
          ∧ left = if r ≤ n then none else some ((r : Int) - n))
      ∨ ∃ r : Nat, 0 < r ∧ s.clock.slew = some (-(r : Int)) ∧ a = n - min (n - n / 2) r
          ∧ left = if r ≤ n - n / 2 then none else some (-(r : Int) + (n - n / 2 : Nat))) →
    ∃ t : State, exec .dayClockTick s = .next t ∧ t.now = s.now + 1
      ∧ t.clock = { s.clock with
          virtualTime := if 86400000 ≤ v + a then v + a - 86400000 else v + a
          day := if 86400000 ≤ v + a then (s.clock.day + 1) % 65536 else s.clock.day
          fraction := (s.clock.rate + s.clock.fraction) % 16
          slew := left
          sky := skyLevel s.tables.sky ((if 86400000 ≤ v + a then v + a - 86400000 else v + a) / 1000)
          tickTimer := some 1 }
      ∧ (s.clock.slew.isSome = true → left = none → t.report.flags.getLsbD EventKind.slewDone.code = true)
      ∧ (s.clock.slew = none ∨ left.isSome = true → t.report = s.report ∧ t.link = s.link)
      ∧ (∀ k, v < k * 60000 → k * 60000 ≤ v + a → s.mode ≠ .starting → s.cues.pendingEvents.length < 32 →
          t.cues.pendingEvents = s.cues.pendingEvents ++ [deviceEvent (.minute (k % 1440))])
      ∧ ((∀ k, v < k * 60000 → v + a < k * 60000) → t.cues = s.cues)
      ∧ OnlyChanges [.clock, .now, .events, .blockCounters, .link, .sOut, .report] s t

/-- R99 to R101: CLOCK SET with JUMP sets the time and the day, ends a slew without SLEW_DONE, recomputes S, and raises CLOCK_JUMPED to the
Cue Engine and to the Report Unit with the old virtual minute. With SLEW it sets the remainder to the difference to the target, taken into
−43 200 000 to +43 199 999, absent where it is 0. A second above 86 399 is refused with BAD_VALUE, and so is SLEW at rate 0. CLOCK RATE sets
Q and nothing else. -/
def Obligations.ClockRequestsSetTheTimeAndTheRate : Prop :=
  ∀ (tag : Byte) (second : BitVec 24) (day : BitVec 16) (s : State), s.ready →
    exec (.clockSetJump tag second day) s = .next
        (if 86399 < second.toNat then reply tag .badValue [] s.received
         else reply tag .ok [] (raise .clockJumped 0xFFFF (s.clock.virtualTime / 60000) (deliverCue (deviceEvent .clockJumped)
           { s.received with clock := { s.clock with
               virtualTime := second.toNat * 1000, day := day.toNat, slew := none, sky := skyLevel s.tables.sky second.toNat } })))
      ∧ (86399 < second.toNat ∨ s.clock.rate = 0 →
          exec (.clockSetSlew tag second day) s = .next (reply tag .badValue [] s.received))
      ∧ (second.toNat ≤ 86399 → s.clock.rate ≠ 0 → ∀ d : Int, -43200000 ≤ d → d ≤ 43199999 →
          (86400000 : Int) ∣ second.toNat * 1000 - s.clock.virtualTime - d →
          exec (.clockSetSlew tag second day) s = .next
            (reply tag .ok [] { s.received with clock := { s.clock with slew := if d = 0 then none else some d } }))
      ∧ exec (.clockRate tag day) s = .next (reply tag .ok [] { s.received with clock := { s.clock with rate := day.toNat } })

/-- R104, R106, R107, R18: a LIGHTCOUNT of the ambient node is rejected in STARTING, with LEN other than 4 or reference count 0, the clock
kept; else the ratio, at most 8000, the curve level and A = (7A + L + 4) ÷ 8 are taken, the stale condition ends and the timer restarts.
From any other node it moves no clock. Where the node's policy forwards it, its copy to address 126 is queued and it is counted as
forwarded, or refused for want of room and dropped with UPSTREAM_FULL; not forwarded it is consumed from the ambient node and dropped with
NO_TAKER from another. The node leaves the Missing Node List. The timer's expiry makes A stale with AMBIENT_STALE. R103, R105, for points in
strictly ascending order: at each of its points a curve has that point's level, and between two neighbouring points it is La + ((Lb − La) ×
(x − xa)) ÷ (xb − xa), the division truncated toward zero. The Sky Curve goes on from its last point to its first of the next day, 86 400 s
later. The Ambient Curve holds its first point's level before it, and its last point's after it. -/
def Obligations.AmbientLevelFollowsItsSamples : Prop :=
  ((∀ (src : Byte) (payload : List Byte) (s : State), 1 ≤ src.toNat → src.toNat ≤ 96 →
     let copy : Frame := { dest := 126, src := src, kind := 0x52, payload := payload }
     let counted : (PortTotals → PortTotals) → PortTotals := fun f => f { s.counters.fIn with good := s.counters.fIn.good + 1 }
     ∃ t : State, exec (.lightcountReceived src payload) s = .next t
       ∧ (if forwards s.tables src.toNat kindLightcount = true then
           if s.othersWaiting < 28 then
             t.link = ShowLink.start { s.link with upstream := s.link.upstream ++ [copy] }
               ∧ t.counters.fIn = counted (fun p => { p with forwarded := p.forwarded + 1 }) ∧ t.counters.fInDrops = s.counters.fInDrops
           else
             t.link = s.link ∧ t.counters.fIn = counted (fun p => { p with dropped := p.dropped + 1 })
               ∧ t.counters.fInDrops = modifyAt s.counters.fInDrops FInDrop.upstreamFull.index (· + 1)
         else if s.tables.clock.ambientNode = src.toNat then
           t.link = s.link ∧ t.counters.fIn = counted (fun p => { p with consumed := p.consumed + 1 })
             ∧ t.counters.fInDrops = s.counters.fInDrops
         else
           t.link = s.link ∧ t.counters.fIn = counted (fun p => { p with dropped := p.dropped + 1 })
             ∧ t.counters.fInDrops = modifyAt s.counters.fInDrops FInDrop.noTaker.index (· + 1))
       ∧ (if s.tables.clock.ambientNode ≠ src.toNat then t.clock = s.clock ∧ t.counters.block = s.counters.block
         else if s.mode = .starting ∨ payload.length ≠ 4 ∨ n2 payload 2 = 0 then
           t.clock = s.clock
             ∧ t.counters.block = { s.counters.block with ambientRejected := s.counters.block.ambientRejected + 1 }
         else
           let q := min (n2 payload 0 * 1000 / n2 payload 2) 8000
           t.clock = { s.clock with
               lastRatio := q, lastCurve := ambientLevel s.tables.ambient q
               ambient := (7 * s.clock.ambient + ambientLevel s.tables.ambient q + 4) / 8
               ambientStale := false, ambientTimer := some (s.tables.clock.ambientTimeout * 1000) }
             ∧ t.counters.block = { s.counters.block with ambientAccepted := s.counters.block.ambientAccepted + 1 })
       ∧ (∀ a, 1 ≤ a → a ≤ 96 → t.field.isMissing a = (decide (a ≠ src.toNat) && s.field.isMissing a))
       ∧ OnlyChanges [.fIn, .fInDrops, .missing, .clock, .blockCounters, .link] s t)
     ∧ ∀ (s : State) (d : Nat), s.clock.ambientTimer = some d →
         exec .ambientTimerExpiry s = .next (raise .ambientStale s.tables.clock.ambientNode 0xFFFF
           { s with clock := { s.clock with ambientStale := true, ambientTimer := none } }))
    ∧ (∀ ps : List (Nat × Nat), (ps.map Prod.fst).Pairwise (· < ·) →
         (∀ p ∈ ps, skyLevel ps (p.1 * 60) = p.2 ∧ ambientLevel ps p.1 = p.2)
           ∧ (∀ p q, ps.head? = some p → q ≤ p.1 → ambientLevel ps q = p.2)
           ∧ (∀ p q, ps.getLast? = some p → p.1 ≤ q → ambientLevel ps q = p.2)
           ∧ (∀ (i : Nat) (a b : Nat × Nat), ps[i]? = some a → ps[i + 1]? = some b →
               (∀ q : Nat, a.1 ≤ q → q < b.1 →
                   (ambientLevel ps q : Int) = a.2 + Int.tdiv (((b.2 : Int) - a.2) * (q - a.1)) (b.1 - a.1))
                 ∧ ∀ t : Nat, a.1 * 60 ≤ t → t < b.1 * 60 →
                     (skyLevel ps t : Int) = a.2 + Int.tdiv (((b.2 : Int) - a.2) * (t - a.1 * 60)) (b.1 * 60 - a.1 * 60))
           ∧ ∀ a b : Nat × Nat, ps.getLast? = some a → ps.head? = some b → a.1 ≤ 1439 →
               (∀ t : Nat, a.1 * 60 ≤ t → t < 86400 → (skyLevel ps t : Int) =
                   a.2 + Int.tdiv (((b.2 : Int) - a.2) * (t - a.1 * 60)) (b.1 * 60 + 86400 - a.1 * 60))
                 ∧ ∀ t : Nat, t < b.1 * 60 → (skyLevel ps t : Int) =
                     a.2 + Int.tdiv (((b.2 : Int) - a.2) * (t + 86400 - a.1 * 60)) (b.1 * 60 + 86400 - a.1 * 60))

/-! ## Lamp Channels (Chapter 6) -/

/-- R111 to R120, R123, R50: a refresh restarts the 40 ms timer and advances the two counts. For each channel of the part's own it judges a
STREET state by Table 6-5 and forms the target from the override or else the base level of its kind by Table 6-4, the ambient gain, 255 and
the ceiling; the output goes there at once or by the fade step, and the emitted level follows by ownership. A SIGNAL's block shows PROCEED
when it lies within some train's authorised prefix, and STOP otherwise. Every other channel stays. -/
def Obligations.LampRefreshComputesTheLevels : Prop :=
  ∀ (s : State) (d : Nat), s.lamps.refreshTimer = some d →
    ∃ t : State, exec .lampRefresh s = .next t
      ∧ t.lamps.refreshTimer = some 40 ∧ t.lamps.flashCount = (s.lamps.flashCount + 1) % 25
      ∧ t.lamps.restatementCount = (if s.lamps.restatementCount + 1 < 50 then s.lamps.restatementCount + 1 else 0)
      ∧ (∀ c, (s.patchEntry c).mapped = false ∨ (s.patchEntry c).ownership = .show → t.channel c = s.channel c)
      ∧ (∀ c, (s.patchEntry c).mapped = true → (s.patchEntry c).ownership ≠ .show →
          let e := s.patchEntry c
          let x := s.channel c
          let y := t.channel c
          let base : Nat := match e.kind with
            | .skywash low high => ((low : Int) + Int.tdiv (((high : Int) - low) * s.clock.sky) 1000).toNat
            | .street _ _ _ => if y.lit then e.onValue else 0
            | .window first last =>
              let m := s.clock.virtualTime / 60000
              if (first < last ∧ first ≤ m ∧ m < last) ∨ (last ≤ first ∧ (first ≤ m ∨ m < last)) then e.onValue else 0
            | .signal b shows =>
              if (shows = .proceed ↔ ∃ tr : TrainId, b ∈ (s.path tr).reserved.take (s.path tr).authorised) then e.onValue else 0
            | .crossing b phase =>
              if (s.blockEntry b).crossing = true ∧ (s.block b).crossing ≠ .idle ∧ (phase = .a ↔ s.lamps.flashCount ≤ 12) then e.onValue
              else 0
            | .headlight tr on => if (s.train tr).condition.isLocated = true ∧ s.clock.sky ≤ on then e.onValue else 0
            | .chase r first last => match (s.rotor r).phase with
              | none => 0
              | some p =>
                if ((s.rotor r).condition = .running ∨ (s.rotor r).condition = .stopping)
                    ∧ ((first < last ∧ first ≤ p ∧ p < last) ∨ (last ≤ first ∧ (first ≤ p ∨ p < last))) then e.onValue
                else 0
            | .cue => 0
          let level := x.override.getD base
          (∀ on off stagger, e.kind = .street on off stagger →
              let holds := if x.lit then off ≤ s.clock.sky else s.clock.sky ≤ on
              (y.lit = if holds ∧ x.staggerTimer = none ∧ stagger = 0 then !x.lit else x.lit)
                ∧ y.staggerTimer = if holds then (if x.staggerTimer = none ∧ stagger ≠ 0 then some stagger else x.staggerTimer) else none)
            ∧ ((∀ on off stagger, e.kind ≠ .street on off stagger) → y.lit = x.lit ∧ y.staggerTimer = x.staggerTimer)
            ∧ y.target = min (min
                (if 0 < e.ambientWeight then level * (1000 + s.clock.ambient * e.ambientWeight / 256) / 1000 else level) 255) e.ceiling
            ∧ y.output = (if e.kind.isCrisp = true ∨ x.override.isSome = true ∨ e.fadeStep = 0 then y.target
                else if x.output < y.target then min (x.output + e.fadeStep) y.target else max (x.output - e.fadeStep) y.target)
            ∧ y.emitted = (if e.ownership = .merge then min (max y.output x.showValue) e.ceiling else y.output)
            ∧ (x.output ≤ e.ceiling → y.output ≤ e.ceiling ∧ y.emitted ≤ e.ceiling)
            ∧ y.override = x.override ∧ y.overrideTimer = x.overrideTimer ∧ y.showValue = x.showValue)
      ∧ OnlyChanges [.channels, .lampCycle, .output, .blockCounters] s t

/-- R122 to R125: a refresh puts no level on an output the part does not own, carries each channel at its emitted level, and leaves no
channel changed whose node had no LEVEL frame waiting, unless the Engine Queue is then full for LEVEL frames. A channel's offered level is
kept where it is not sent, but for the restatement at every fiftieth refresh. Frames waiting for other blocks stay. R124, R125: the changed
channels of the nodes with no LEVEL waiting lie in runs of consecutive outputs of the part's own, at most 47 long, each from a changed
channel to a changed channel and cut short of the next only by the 47 or by an output not its own. They are offered in ascending order of
node and first channel, each on the room it finds; each one refused adds 1 to runs deferred, and leaves its channels' offered levels. -/
def Obligations.LampRefreshSendsWhatChanged : Prop :=
  ∀ (s : State) (d : Nat), s.lamps.refreshTimer = some d → s.field.busy →
    (∀ c, (s.patchEntry c).engineOwned = true →
      1 ≤ (s.patchEntry c).node ∧ (s.patchEntry c).node ≤ 96 ∧ (s.patchEntry c).nodeChannel ≤ 63
        ∧ ∀ c', (s.patchEntry c').engineOwned = true → (s.patchEntry c').node = (s.patchEntry c).node →
            (s.patchEntry c').nodeChannel = (s.patchEntry c).nodeChannel → c' = c) →
    ∃ t : State, exec .lampRefresh s = .next t
      ∧ (∀ c, (s.patchEntry c).engineOwned = true →
          ((t.channel c).offered = some (t.channel c).emitted
            ∨ (t.channel c).offered = if s.lamps.restatementCount + 1 < 50 then (s.channel c).offered else none)
          ∧ (nodeBusy s.field.engine (s.patchEntry c).node = false →
              (t.field.engine.filter fun e => e.1.isLevel).length < 20 → t.field.engine.length < 48 →
              (t.channel c).offered = some (t.channel c).emitted))
      ∧ (∀ e ∈ s.field.engine, e ∈ t.field.engine)
      ∧ (∀ k f, (k, f) ∈ t.field.engine ∨ t.field.transmitting = some (.engine, f) ∧ s.field.transmitting = none ∧ k.isLevel = true
            ∧ f.kind = kindLevel →
          (k, f) ∈ s.field.engine
            ∨ ∃ node first : Nat, f.dest = byte node ∧ f.src = 0 ∧ f.kind = kindLevel ∧ at0 f.payload 0 = byte first
                ∧ 2 ≤ f.payload.length ∧ f.payload.length ≤ 48
                ∧ ∀ i, i + 1 < f.payload.length → ∃ c, (s.patchEntry c).engineOwned = true ∧ (s.patchEntry c).node = node
                    ∧ (s.patchEntry c).nodeChannel = first + i ∧ at0 f.payload (i + 1) = byte (t.channel c).emitted)
      ∧ t.field.urgent = s.field.urgent ∧ t.field.pass = s.field.pass
      ∧ (let owned : ChannelId → Prop := fun c => (s.patchEntry c).engineOwned = true
         let restated := 50 ≤ s.lamps.restatementCount + 1
         let changed : ChannelId → Prop := fun c => owned c ∧ (restated ∨ (s.channel c).offered ≠ some (t.channel c).emitted)
         let level : LevelRun → Frame := fun r =>
           { dest := byte r.node, src := 0, kind := 0x20, payload := byte r.first :: r.channels.map fun c => byte (t.channel c).emitted }
         ∃ runs : List LevelRun,
           runs.Pairwise (fun r r' => r.node < r'.node ∨ r.node = r'.node ∧ r.first + r.channels.length ≤ r'.first)
             ∧ (∀ r ∈ runs, nodeBusy s.field.engine r.node = false ∧ r.channels.length ≤ 47
                 ∧ (∀ i c, r.channels[i]? = some c →
                     owned c ∧ (s.patchEntry c).node = r.node ∧ (s.patchEntry c).nodeChannel = r.first + i)
                 ∧ (∃ c, r.channels.head? = some c ∧ changed c) ∧ (∃ c, r.channels.getLast? = some c ∧ changed c)
                 ∧ ∀ c, changed c → (s.patchEntry c).node = r.node → r.first + r.channels.length ≤ (s.patchEntry c).nodeChannel →
                     r.first + 47 ≤ (s.patchEntry c).nodeChannel
                       ∨ ∃ k, r.first + r.channels.length ≤ k ∧ k < (s.patchEntry c).nodeChannel
                           ∧ ∀ o, owned o → (s.patchEntry o).node = r.node → (s.patchEntry o).nodeChannel ≠ k)
             ∧ (∀ c, changed c → nodeBusy s.field.engine (s.patchEntry c).node = false → ∃ r ∈ runs, c ∈ r.channels)
             ∧ let offered := runs.foldl (fun (a : FieldPort × List LevelRun) r =>
                 if (a.1.engine.filter fun e => e.1.isLevel).length < 20 ∧ a.1.engine.length < 48 then
                   (FieldPort.grant { a.1 with engine := a.1.engine ++ [(.level r.node r.first, level r)] }, a.2 ++ [r])
                 else a) (s.field, [])
               t.field = offered.1
                 ∧ t.counters.block = { s.counters.block with
                     runsDeferred := s.counters.block.runsDeferred + BitVec.ofNat 32 (runs.length - offered.2.length) }
                 ∧ ∀ c, owned c → (t.channel c).offered =
                     if ∃ r ∈ offered.2, c ∈ r.channels then some (t.channel c).emitted
                     else if restated then none else (s.channel c).offered)

/-- R126, R127, Table 6-6: a host LEVEL for one lamp node is handed on with each level adjusted by the channel mapped there: lowered to the
ceiling for SHOW, replaced by the emitted level for ENGINE, by the higher of output and level within the ceiling for MERGE, whose show value
becomes the level as received. Above node channel 63, on an unmapped output, without levels or from a first channel above 63 nothing is
adjusted. A broadcast is dropped with BROADCAST while a channel is mapped, and handed on otherwise. -/
def Obligations.HostLevelIsAdjustedAndHandedOn : Prop :=
  ∀ (dest : Byte) (s : State), s.mode ≠ .starting → s.settled →
    (1 ≤ dest.toNat → dest.toNat ≤ 96 → ∀ (first : Byte) (levels : List Byte), first.toNat ≤ 63 →
        let at? : Nat → Option ChannelId := fun i =>
          if first.toNat + i ≤ 63 then channelAt s.tables dest.toNat (first.toNat + i) else none
        ∃ (adjusted : List Byte) (a : State),
          exec (.hostLevel dest (first :: levels)) s = .next (handOn { dest := dest, src := 126, kind := kindLevel, payload := first :: adjusted } a)
            ∧ adjusted.length = levels.length
            ∧ (∀ i l, levels[i]? = some l →
                (at? i = none → adjusted[i]? = some l)
                  ∧ ∀ c, at? i = some c → adjusted[i]? = some (match (s.patchEntry c).ownership with
                      | .show => byte (min l.toNat (s.patchEntry c).ceiling)
                      | .engine => byte (s.channel c).emitted
                      | .merge => byte (min (max (s.channel c).output l.toNat) (s.patchEntry c).ceiling)))
            ∧ (∀ i l c, levels[i]? = some l → at? i = some c → (s.patchEntry c).ownership = .merge →
                a.channel c = { s.channel c with showValue := l.toNat })
            ∧ (∀ c, (∀ i, i < levels.length → at? i = some c → (s.patchEntry c).ownership ≠ .merge) → a.channel c = s.channel c)
            ∧ a.counters.sIn = { s.counters.sIn with good := s.counters.sIn.good + 1 }
            ∧ OnlyChanges [.sIn, .channels] s a)
      ∧ (1 ≤ dest.toNat → dest.toNat ≤ 96 → ∀ payload : List Byte, payload.length ≤ 1 ∨ 63 < n1 payload 0 →
          exec (.hostLevel dest payload) s = .next
            (handOn { dest := dest, src := 126, kind := kindLevel, payload := payload } (s.countSIn PortTotals.addGood)))
      ∧ (dest = 127 → ∀ payload : List Byte,
          ((∃ c, (s.patchEntry c).mapped = true) →
              exec (.hostLevel dest payload) s = .next ((s.countSIn PortTotals.addGood).dropSIn .broadcast))
            ∧ ((∀ c, (s.patchEntry c).mapped = false) →
                exec (.hostLevel dest payload) s = .next
                  (handOn { dest := dest, src := 126, kind := kindLevel, payload := payload } (s.countSIn PortTotals.addGood))))

/-! ## The Carousel and Rotary Movers (Chapter 7) -/

/-- R132 to R135: ROTOR START, ROTOR STOP, ROTOR HALT and CLEAR ROTOR, with their refusals in the rules' order. START clamps the step to 1 –
max step and homes an UNHOMED rotor, replaces the pending target of a HOMING one, and runs any other at the step. STOP sends a RUNNING or
HOMING rotor to STOPPING. HALT cuts a rotor that turns or stands homed, with cause REQUESTED and a ROTOR frame of step 0, and leaves an
UNHOMED or HALTED one. CLEAR makes a HALTED rotor UNHOMED, its revolutions count and lap flags kept. R140: a host ROTOR on a QUALIFIED ring.
With no matching rotor it is handed on unchanged. With level 0 it is consumed and acts as STOP; with another level it acts as START,
consumed where START accepts and dropped with ROTOR_REFUSED where it refuses. -/
def Obligations.RotorsStartAndStopByRequestAndByHost : Prop :=
  (∀ (tag rotor step : Byte) (s : State), s.ready →
     (3 < rotor.toNat →
         exec (.rotorStart tag rotor step) s = .next (reply tag .badIndex [] s.received)
           ∧ exec (.rotorStop tag rotor) s = .next (reply tag .badIndex [] s.received)
           ∧ exec (.rotorHalt tag rotor) s = .next (reply tag .badIndex [] s.received)
           ∧ exec (.clearRotor tag rotor) s = .next (reply tag .badIndex [] s.received))
       ∧ ∀ r : RotorId, rotor.toNat = r.val →
           let q := max 1 (min step.toNat (s.rotorEntry r).maxStep)
           exec (.rotorStart tag rotor step) s = .next
               (if (s.rotorEntry r).enabled = false then reply tag .notAvailable [] s.received
                else if s.mode ≠ .run ∨ s.qualified = false then reply tag .wrongMode [] s.received
                else if (s.rotor r).condition = .halted then reply tag .notAvailable [] s.received
                else reply tag .ok [] (s.received.updRotor r fun x => match x.condition with
                  | .unhomed => { x with condition := .homing, pendingTarget := some q, runTime := 0, ramp := .none }
                  | .homing => { x with pendingTarget := some q }
                  | _ => { x with condition := .running, target := q }))
             ∧ exec (.rotorStop tag rotor) s = .next
                 (if (s.rotorEntry r).enabled = false then reply tag .notAvailable [] s.received
                  else reply tag .ok [] (s.received.updRotor r fun x => match x.condition with
                    | .running => { x with condition := .stopping }
                    | .homing => { x with condition := .stopping, pendingTarget := none }
                    | _ => x))
             ∧ exec (.rotorHalt tag rotor) s = .next
                 (if (s.rotorEntry r).enabled = false then reply tag .notAvailable [] s.received
                  else if (s.rotor r).condition = .unhomed ∨ (s.rotor r).condition = .halted then reply tag .ok [] s.received
                  else reply tag .ok [] (raise .rotorHalted r.val 4
                    ({ s.received with field := FieldPort.grant { s.field with
                         engine := keyedOffer s.field.engine (.rotor r)
                           { dest := byte (s.rotorEntry r).node, src := 0, kind := 0x40,
                             payload := [byte (s.rotorEntry r).channel,
                               if (s.rotorEntry r).direction = Direction.reverse then 1 else 0, 0] } } }.updRotor r fun x =>
                      { x with
                        condition := .halted, cause := some .requested, step := 0, target := 0, accumulator := 0, ramp := .none
                        pendingTarget := none, refreshTimer := some 1000 })))
             ∧ exec (.clearRotor tag rotor) s = .next
                 (if (s.rotor r).condition = .halted then reply tag .ok [] (s.received.updRotor r fun x =>
                    { x with
                      condition := .unhomed, cause := none, step := 0, target := 0, pendingTarget := none, accumulator := 0, ramp := .none
                      runTime := 0, indexSeen := false, lastLap := none, phase := none })
                  else reply tag .notAvailable [] s.received))
    ∧ (∀ (dest channel flags level : Byte) (s : State), 1 ≤ dest.toNat → dest.toNat ≤ 96 → s.mode ≠ .starting → s.qualified = true → s.settled →
         (rotorAt s.tables dest.toNat channel.toNat = none →
             exec (.hostRotor dest [channel, flags, level]) s = .next
               (handOn { dest := dest, src := 126, kind := kindRotor, payload := [channel, flags, level] } (s.countSIn PortTotals.addGood)))
           ∧ ∀ r, rotorAt s.tables dest.toNat channel.toNat = some r →
               (level = 0 →
                   exec (.hostRotor dest [channel, flags, level]) s = .next (s.received.updRotor r fun x => match x.condition with
                     | .running => { x with condition := .stopping }
                     | .homing => { x with condition := .stopping, pendingTarget := none }
                     | _ => x))
                 ∧ (level ≠ 0 → s.mode ≠ .run ∨ (s.rotor r).condition = .halted →
                     exec (.hostRotor dest [channel, flags, level]) s = .next ((s.countSIn PortTotals.addGood).dropSIn .rotorRefused))
                 ∧ (level ≠ 0 → s.mode = .run → (s.rotor r).condition ≠ .halted →
                     let q := max 1 (min level.toNat (s.rotorEntry r).maxStep)
                     exec (.hostRotor dest [channel, flags, level]) s = .next (s.received.updRotor r fun x => match x.condition with
                       | .unhomed => { x with condition := .homing, pendingTarget := some q, runTime := 0, ramp := .none }
                       | .homing => { x with pendingTarget := some q }
                       | _ => { x with condition := .running, target := q })))

/-- R136, R137: a rotor update restarts the 20 ms timer and passes over a rotor that is disabled or does not turn. For one that turns, the
run time counts while it is powered, the phase is its per-mille of the last lap, at most 999, and a run time past the stall limit halts it
with cause STALL and a ROTOR of step 0 (R134). Otherwise the step moves toward the effective target of its state by the ramp rule, and a
changed step is sent and restarts the refresh timer. -/
def Obligations.RotorUpdateMovesEachRotor : Prop :=
  ∀ (s : State) (d : Nat), s.rotors.updateTimer = some d →
    ∃ t : State, exec .rotorUpdate s = .next t ∧ t.rotors.updateTimer = some 20
      ∧ OnlyChanges [.rotorTimer, .rotors, .output, .link, .sOut, .report] s t
      ∧ ∀ r : RotorId, ((s.rotorEntry r).enabled = false ∨ (s.rotor r).condition.isTurning = false → t.rotor r = s.rotor r)
        ∧ ((s.rotorEntry r).enabled = true → (s.rotor r).condition.isTurning = true →
            let e := s.rotorEntry r
            let x := s.rotor r
            let run := if 0 < x.step then x.runTime + 20 else x.runTime
            let phase := match x.lastLap with
              | none => x.phase
              | some lap => some (min (run * 1000 / lap) 999)
            (0 < x.step → e.stallLimit < run →
                t.rotor r = { x with
                    condition := .halted, cause := some .stall, step := 0, target := 0, pendingTarget := none, accumulator := 0
                    ramp := .none, runTime := run, phase := phase, refreshTimer := some 1000 }
                  ∧ t.report.flags.getLsbD EventKind.rotorHalted.code = true
                  ∧ ((.rotor r, rotorFrame e 0) ∈ t.field.engine ∨ t.field.transmitting = some (.engine, rotorFrame e 0)))
              ∧ (x.step = 0 ∨ run ≤ e.stallLimit →
                  let goal := match x.condition with
                    | .homing => e.creepStep
                    | .running => x.target
                    | _ => if e.creepStep < x.step then e.creepStep else x.step
                  let up := (if x.ramp = .down then 0 else x.accumulator) + e.acceleration
                  let down := (if x.ramp = .up then 0 else x.accumulator) + e.acceleration
                  let rise := min (up / 50) (goal - x.step)
                  let fall := min (down / 50) (x.step - goal)
                  t.rotor r =
                    (if x.step < goal then
                      { x with
                        runTime := run, phase := phase, step := x.step + rise, ramp := .up
                        accumulator := if x.step + rise = goal then 0 else up - 50 * rise
                        refreshTimer := if rise = 0 then x.refreshTimer else some 1000 }
                    else if goal < x.step then
                      { x with
                        runTime := run, phase := phase, step := x.step - fall, ramp := .down
                        accumulator := if x.step - fall = goal then 0 else down - 50 * fall
                        refreshTimer := if fall = 0 then x.refreshTimer else some 1000 }
                    else { x with runTime := run, phase := phase, accumulator := 0 })
                  ∧ ((t.rotor r).step ≠ x.step →
                      (EngineKey.rotor r, rotorFrame e (t.rotor r).step) ∈ t.field.engine
                        ∨ t.field.transmitting = some (.engine, rotorFrame e (t.rotor r).step))))

/-- R138, Table 7-5: a rising INDEX edge, here accepted by its filter timer, for the enabled rotor that turns and names the entry. The lap
is captured where the index was seen before and the rotor has run, the revolutions are counted, and the run time starts anew. A HOMING rotor
with a pending target runs at it; a STOPPING one at or below creep stands STOPPED; any other runs on. ROTOR_INDEX, and ROTOR_STOPPED behind
it, reach the Cue Engine. An edge for any other rotor is without effect. -/
def Obligations.IndexEdgeTakesTheLap : Prop :=
  ∀ (en : EntryId) (d : Nat) (r : RotorId) (s : State), (s.sensor en).timer = some d → (s.sensorEntry en).function = .index r →
    (s.sensor en).raw = true → (s.sensor en).filtered = false →
    ∃ t : State, exec (.filterTimerExpiry en) s = .next t
      ∧ ((s.rotorEntry r).enabled = false ∨ (s.rotorEntry r).indexEntry ≠ en ∨ (s.rotor r).condition.isTurning = false →
          OnlyChanges [.entries] s t)
      ∧ ((s.rotorEntry r).enabled = true → (s.rotorEntry r).indexEntry = en → (s.rotor r).condition.isTurning = true →
          let x := s.rotor r
          let y := t.rotor r
          let lap := x.indexSeen = true ∧ 0 < x.runTime
          let stops := x.condition = .stopping ∧ x.step ≤ (s.rotorEntry r).creepStep
          y.runTime = 0 ∧ y.indexSeen = true ∧ y.revolutions = (x.revolutions + 1) % 65536
            ∧ (lap → y.lastLap = some (min x.runTime 65535) ∧ y.lapRenewed = true ∧ y.lapOverrun = (x.lapOverrun || x.lapRenewed))
            ∧ (¬ lap → y.lastLap = x.lastLap ∧ y.lapRenewed = x.lapRenewed ∧ y.lapOverrun = x.lapOverrun)
            ∧ y.phase = (if y.lastLap.isSome then some 0 else x.phase)
            ∧ (∀ q, x.condition = .homing → x.pendingTarget = some q → y.condition = .running ∧ y.target = q ∧ y.pendingTarget = none
                ∧ y.step = x.step ∧ t.report.flags.getLsbD EventKind.rotorHomed.code = true)
            ∧ (stops → y.condition = .stopped ∧ y.step = 0 ∧ y.accumulator = 0 ∧ y.ramp = .none ∧ y.refreshTimer = some 1000
                ∧ t.report.flags.getLsbD EventKind.rotorStopped.code = true)
            ∧ (¬ stops → x.condition ≠ .homing → y.condition = x.condition ∧ y.step = x.step ∧ t.report = s.report)
            ∧ (s.mode ≠ .starting → s.cues.pendingEvents.length < 31 →
                (stops → t.cues.pendingEvents = s.cues.pendingEvents ++ [deviceEvent (.rotorIndex r), deviceEvent (.rotorStopped r)])
                  ∧ (¬ stops → t.cues.pendingEvents = s.cues.pendingEvents ++ [deviceEvent (.rotorIndex r)]))
            ∧ (∀ o, o ≠ r → t.rotor o = s.rotor o)
            ∧ OnlyChanges [.entries, .rotors, .output, .events, .blockCounters, .link, .sOut, .report] s t)

/-! ## Cues (Chapter 8) -/

/-- R144: the judgement takes the oldest event from the pending list and judges it at all 64 cues in ascending index, each on the state the
one before left; where no enabled entry but one has a matching selector, that is its judgement at that cue alone. R145 to R147, Table 8-5:
the judgement at one cue. An event that the cue does not listen to (its entry disabled, its stage neither WAIT_A nor WAIT_B, no selector
matching, or its own CUE_FIRED) does nothing there. Taken as A or as B by R145, it counts, opens or completes by the cue's mode and stage; a
completed combination fires the cue at the depth and with the origin of R150 and R151. -/
def Obligations.EventIsJudgedByModeAndStage : Prop :=
  (∀ (s : State) (v : CueEvent) (rest : List CueEvent), s.cues.pendingEvents = v :: rest →
     let s1 : State := { s with cues := { s.cues with pendingEvents := rest } }
     exec .cueEventJudgement s = .next ((List.finRange 64).foldl (fun t k => judgeAt v k t) s1)
       ∧ ∀ k : CueId,
           (∀ j, j ≠ k → (s.cueEntry j).enabled = false ∨ v.trigger = .cueFired j
             ∨ ((s.cueEntry j).triggerA ≠ v.trigger ∧ (s.cueEntry j).triggerB ≠ some v.trigger)) →
           exec .cueEventJudgement s = .next (judgeAt v k s1))
    ∧ ∀ (v : CueEvent) (k : CueId) (s : State),
        let e := s.cueEntry k
        let x := s.cue k
        let a := e.triggerA = v.trigger
        let b := e.triggerB = some v.trigger
        let listens := e.enabled = true ∧ (x.stage = .waitA ∨ x.stage = .waitB) ∧ v.trigger ≠ .cueFired k ∧ (a ∨ b)
        let actsOnA := x.stage = .waitA ∨ e.mode = .bothWithin ∧ x.openHalf = some .b
        let asA := a ∧ (¬ b ∨ actsOnA)
        let counted : CueProgress := { x with count := x.count + 1 }
        let paired : CueProgress := { x with stage := .waitA, openHalf := none, windowTimer := none, count := x.count + 1 }
        let quiet : CueProgress → Prop := fun y => judgeAt v k s = s.updCue k fun _ => y
        let fires : CueProgress → Prop := fun y => judgeAt v k s = fireCue k
          (match v.trigger with | .cueFired _ => v.depth + 1 | _ => 1)
          (match v.trigger with | .button _ => .button | .cueFired _ => v.origin | _ => .other) (s.updCue k fun _ => y)
        let reaches : CueProgress → Prop := fun y => if e.count ≤ x.count + 1 then fires y else quiet y
        (¬ listens → judgeAt v k s = s)
          ∧ (listens →
              match e.mode, x.stage with
              | .countA, .waitA => if asA then reaches counted else quiet x
              | .either, .waitA => reaches counted
              | .aThenB, .waitA => if asA then quiet { x with stage := .waitB, count := 0 } else quiet x
              | .aThenB, .waitB => if asA then quiet x else reaches counted
              | .aCountThenB, .waitA =>
                if asA then quiet { counted with stage := if e.count ≤ x.count + 1 then .waitB else .waitA } else quiet x
              | .aCountThenB, .waitB => if asA then quiet x else fires x
              | .bothWithin, .waitA =>
                quiet { x with stage := .waitB, openHalf := some (if asA then .a else .b), windowTimer := some e.window }
              | .bothWithin, .waitB =>
                match x.openHalf with
                | none => True
                | some h => if h = (if asA then .a else .b) then quiet x else reaches paired
              | _, _ => True)

/-- R149, R150: a firing carries out the cue's actions in list order, then counts the firing and stamps it by the stamp mode, sets the stage
by one-shot and hold-off (unless the cue's own last arming action is a DISABLE_CUE of itself), and raises CUE_FIRED with its depth and
origin. Below depth 4 the CUE_FIRED is offered to the pending list with that depth and origin. At depth 4 it is not, and where another
enabled cue has a CUE_FIRED selector naming this one, CUE_CHAIN_LIMIT is raised with detail 4 (that it follows CUE_FIRED is the model's
reading, log entry 26). R154: CUE FIRE of a cue whose entry is enabled is such a firing at depth 1 with origin OTHER, and is answered OK.
For a disabled entry it is refused with NOT_AVAILABLE, for an index above 63 with BAD_INDEX. -/
def Obligations.CueFireCarriesOutTheCue : Prop :=
  let stamped : CueEntry → State → CueProgress → CueProgress := fun e a x =>
    { x with
      fireCount := min (x.fireCount + 1) 65535
      stamp := if e.stampMode = .first ∧ x.stamp.isSome = true then x.stamp else some (a.clock.day, a.clock.virtualTime / 1000) }
  let staged : CueEntry → CueProgress → CueProgress := fun e x =>
    { x with
      stage := if e.oneShot = true then .disabled else if e.holdOff = 0 then .waitA else .holdOff
      count := 0, openHalf := none, windowTimer := none
      holdOffTimer := if e.oneShot = true ∨ e.holdOff = 0 then none else some e.holdOff }
  let lastArms : CueEntry → CueId → CueAction → Prop := fun e k c =>
    (e.actions.filter fun d => d = .enableCue k ∨ d = .disableCue k).getLast? = some c
  (∀ (k : CueId) (depth : Nat) (o : Origin) (s : State),
     let e := s.cueEntry k
     let a := cueActions k o 0 e.actions s
     ∃ y : CueProgress,
       (lastArms e k (.disableCue k) → y = stamped e a (a.cue k))
         ∧ (¬ lastArms e k (.disableCue k) → y = staged e (stamped e a (a.cue k)))
         ∧ let announced := raise .cueFired k.val (depth * 256 + if o = .button then 0 else 1) (a.updCue k fun _ => y)
           fireCue k depth o s =
             if depth < 4 then deliverCue { trigger := .cueFired k, depth := depth, origin := o } announced
             else if ∃ j, j ≠ k ∧ (s.cueEntry j).enabled = true
                 ∧ ((s.cueEntry j).triggerA = .cueFired k ∨ (s.cueEntry j).triggerB = some (.cueFired k)) then
               raise .cueChainLimit k.val 4 announced
             else announced)
    ∧ ∀ (tag cue : Byte) (s : State), s.ready →
        (63 < cue.toNat → exec (.cueFire tag cue) s = .next (reply tag .badIndex [] s.received))
          ∧ ∀ k : CueId, cue.toNat = k.val →
              ((s.cueEntry k).enabled = false → exec (.cueFire tag cue) s = .next (reply tag .notAvailable [] s.received))
                ∧ ((s.cueEntry k).enabled = true →
                    let e := s.cueEntry k
                    let a := cueActions k .other 0 e.actions s.received
                    ∃ y : CueProgress,
                      (lastArms e k (.disableCue k) → y = stamped e a (a.cue k))
                        ∧ (¬ lastArms e k (.disableCue k) → y = staged e (stamped e a (a.cue k)))
                        ∧ exec (.cueFire tag cue) s = .next (reply tag .ok []
                            (deliverCue { trigger := .cueFired k, depth := 1, origin := .other }
                              (raise .cueFired k.val (1 * 256 + 1) (a.updCue k fun _ => y)))))

/-- R152, Table 8-6: the actions of a firing are carried out one after another, each on the state the one before left; one that its owner
refuses raises CUE_ACTION_REFUSED with the action's position and the status, and the rest still follow. What each action kind does by its
owner's rule, accepted or refused, where no service of the Route Queue is due. R52: DISPATCH is refused in the order of the rule; accepted,
it joins the Route Queue with source CUE, or BUTTON-CUE for a firing with origin BUTTON, and where it is the only request it is granted at
once if it is grantable and waits if it is not. R56: CANCEL_REQUEST removes the train's request with ROUTE_REFUSED, cause CANCELLED. R132:
ROTOR_START acts by the rotor's state. R168: MODE_HOLD makes RUN into HOLDING, or into HOLD where every step is 0. -/
def Obligations.CueActionsFollowTheirOwnersRules : Prop :=
  ∀ (k : CueId) (o : Origin) (pos : Nat) (rest : List CueAction) (s : State), s.settled →
    let then' : State → State := fun u => cueActions k o (pos + 1) rest u
    let refused : Nat → State := fun code => then' (raise .cueActionRefused k.val (pos * 256 + code) s)
    (∀ q, cueActions k o pos (.setRate q :: rest) s = then' { s with clock := { s.clock with rate := q } })
      ∧ (∀ d, cueActions k o pos (.report d :: rest) s = then' (raise .cueReport k.val d s))
      ∧ (∀ c level time, cueActions k o pos (.override c level time :: rest) s =
          if (s.patchEntry c).mapped = true ∧ (s.patchEntry c).ownership ≠ .show then
            then' (s.updChannel c fun x => { x with override := some level, overrideTimer := some time })
          else refused 10)
      ∧ (∀ j, cueActions k o pos (.enableCue j :: rest) s =
          if (s.cueEntry j).enabled = true then
            then' (s.updCue j fun x => if x.stage = .disabled then { x with stage := .waitA, count := 0 } else x)
          else refused 10)
      ∧ (∀ j, cueActions k o pos (.disableCue j :: rest) s =
          then' (s.updCue j fun x => if x.stage = .disabled then x
            else { x with stage := .disabled, count := 0, openHalf := none, windowTimer := none, holdOffTimer := none }))
      ∧ (∀ r, cueActions k o pos (.rotorStop r :: rest) s =
          if (s.rotorEntry r).enabled = true then then' (s.updRotor r fun x => match x.condition with
            | .running => { x with condition := .stopping }
            | .homing => { x with condition := .stopping, pendingTarget := none }
            | _ => x)
          else refused 10)
      ∧ (∀ r step, cueActions k o pos (.rotorStart r step :: rest) s =
          if (s.rotorEntry r).enabled = false then refused 10
          else if s.mode ≠ .run ∨ s.qualified = false then refused 3
          else if (s.rotor r).condition = .halted then refused 10
          else
            let q := max 1 (min step (s.rotorEntry r).maxStep)
            then' (s.updRotor r fun x => match x.condition with
              | .unhomed => { x with condition := .homing, pendingTarget := some q, runTime := 0, ramp := .none }
              | .homing => { x with pendingTarget := some q }
              | _ => { x with condition := .running, target := q }))
      ∧ (s.mode ≠ .run → cueActions k o pos (.modeHold :: rest) s = refused 3)
      ∧ (s.mode = .run → ∃ u : State, cueActions k o pos (.modeHold :: rest) s = then' u
          ∧ (∀ x, u.train x = { s.train x with
              permitted := permittedStep u x
              condition := if (s.train x).condition.isLocated = true ∧ permittedStep u x < (s.train x).step then .braking
                else (s.train x).condition })
          ∧ (∀ r, u.rotor r = match (s.rotor r).condition with
              | .running => { s.rotor r with condition := .stopping }
              | .homing => { s.rotor r with condition := .stopping, pendingTarget := none }
              | _ => s.rotor r)
          ∧ (if ∀ x, (s.train x).step = 0 then
              u.mode = .hold ∧ u.report = (raise .holdReached 0xFFFF 0xFFFF s).report ∧ u.link = (raise .holdReached 0xFFFF 0xFFFF s).link
            else u.mode = .holding ∧ u.report = s.report ∧ u.link = s.link)
          ∧ OnlyChanges [.mode, .trains, .rotors, .link, .sOut, .report] s u)
      ∧ (∀ t, (requestOfTrain s t = none → cueActions k o pos (.cancelRequest t :: rest) s = refused 10)
          ∧ ∀ q, requestOfTrain s t = some q → cueActions k o pos (.cancelRequest t :: rest) s =
              then' (raise .routeRefused t.val (q.route.val * 256 + 3)
                { s with interlock := { s.interlock with queue := s.interlock.queue.filter fun x => x.train ≠ t } }))
      ∧ ∀ t r w,
          let route := s.routeEntry r
          let q : RouteRequest :=
            { train := t, route := r, waitLimit := w, source := if o = .button then .buttonCue else .cue
              waitTimer := if w = 0 then none else some (w * 1000) }
          let start := ((s.path t).reserved.getLast?.or (s.path t).occupied.head?) = some route.start
          let passes := route.enabled = true ∧ w ≤ 600 ∧ (s.train t).condition.isLocated = true ∧ requestOfTrain s t = none ∧ start
          (¬ passes → cueActions k o pos (.dispatch t r w :: rest) s =
              if route.enabled = false ∨ 600 < w then refused 6
              else if (s.train t).condition.isLocated = false then refused 10
              else if (requestOfTrain s t).isSome = true then refused 8
              else refused 6)
            ∧ (passes → s.mode ≠ .run ∨ s.qualified = false ∨ s.interlock.queue = [] ∧ grantable s q = false →
                cueActions k o pos (.dispatch t r w :: rest) s =
                  then' { s with interlock := { s.interlock with queue := s.interlock.queue ++ [q] } })
            ∧ (passes → s.interlock.queue = [] → grantable s q = true → s.trackSafe → (route.turnouts.map Prod.fst).Nodup →
                ∃ u : State, cueActions k o pos (.dispatch t r w :: rest) s = then' u
                  ∧ (∀ x, (u.path x).occupied = (s.path x).occupied
                      ∧ (u.path x).reserved = if x = t then (s.path t).reserved ++ route.blocks else (s.path x).reserved)
                  ∧ (∀ b, (u.block b).holding = if b ∈ route.blocks then some (t, .reserved) else (s.block b).holding)
                  ∧ (∀ p ∈ route.turnouts, (u.turnout p.1).lock = some t ∧ (u.turnout p.1).commanded = some p.2)
                  ∧ (u.train t).target = route.cruise ∧ (u.path t).authorised = authorisedCount u t
                  ∧ u.interlock.queue = [] ∧ u.report.flags.getLsbD EventKind.routeGranted.code = true
                  ∧ OnlyChanges [.link, .sOut, .report, .blocks, .turnouts, .paths, .trains, .output, .fOut, .events, .blockCounters] s u)

/-- R153, R155: CUE ENABLE arms a paused cue of an enabled entry and is refused with NOT_AVAILABLE for a disabled one, CUE DISABLE pauses a
cue and stops its timers, CUE RESET STAMP makes its stamp absent; each is refused with BAD_INDEX above 63, and the fire count is kept. -/
def Obligations.CueRequestsActOnOneCue : Prop :=
  ∀ (tag cue : Byte) (s : State), s.ready →
    (63 < cue.toNat →
        exec (.cueEnable tag cue) s = .next (reply tag .badIndex [] s.received)
          ∧ exec (.cueDisable tag cue) s = .next (reply tag .badIndex [] s.received)
          ∧ exec (.cueResetStamp tag cue) s = .next (reply tag .badIndex [] s.received))
      ∧ ∀ k : CueId, cue.toNat = k.val →
          exec (.cueEnable tag cue) s = .next
              (if (s.cueEntry k).enabled = false then reply tag .notAvailable [] s.received
               else reply tag .ok [] (s.received.updCue k fun x =>
                 if x.stage = .disabled then { x with stage := .waitA, count := 0 } else x))
            ∧ exec (.cueDisable tag cue) s = .next (reply tag .ok [] (s.received.updCue k fun x =>
                if x.stage = .disabled then x
                else { x with stage := .disabled, count := 0, openHalf := none, windowTimer := none, holdOffTimer := none }))
            ∧ exec (.cueResetStamp tag cue) s = .next (reply tag .ok [] (s.received.updCue k fun x => { x with stamp := none }))

/-! ## The Show Link and the Pass Filter (Chapter 9) -/

/-- R16, R156, R157, Table 1-6: damaged characters at S-in are counted by their error and discarded. A good frame there from another address
than 126, or for 97 to 126, is dropped with ADDRESS, and one for the part that is no MGMT with KIND. At F-in a good frame that is no echo,
node report or unclaimed frame is dropped with RETURNED, UNCLAIMED_PASS, ADDRESS or KIND by its SRC and DEST. R158 to R160: the first screen
that a host frame for the field meets drops it with its reason: STARTING, KIND for a kind only nodes and the part send, then for a DRIVE,
SWITCH or ROTOR LENGTH, BROADCAST and LOOP_NOT_READY. A SENSE_REQUEST and a frame of an unknown kind that pass are handed on unchanged:
queued as the newest frame of the Pass Queue and counted as forwarded, or, while 32 frames wait, dropped with PASS_OVERFLOW and the event
raised. -/
def Obligations.FramesAreSortedAndScreened : Prop :=
  (∀ (chars : List Byte) (s : State),
     (judge chars = .formatError → exec (.sInFrame chars) s = .next
         { s with counters := { s.counters with sIn := { s.counters.sIn with formatErrors := s.counters.sIn.formatErrors + 1 } } })
       ∧ (judge chars = .checkError → exec (.sInFrame chars) s = .next
           { s with counters := { s.counters with sIn := { s.counters.sIn with checkErrors := s.counters.sIn.checkErrors + 1 } } })
       ∧ ∀ f : Frame, judge chars = .good f →
           let sDropped : SInDrop → Prop := fun why => exec (.sInFrame chars) s = .next ((s.countSIn PortTotals.addGood).dropSIn why)
           let fDropped : FInDrop → Prop := fun why => exec (.fInFrame chars) s = .next ((s.countFIn PortTotals.addGood).dropFIn why)
           (f.src ≠ 126 → sDropped .address)
             ∧ (f.src = 126 → f.dest = 0 → f.kind ≠ kindMgmt → sDropped .kind)
             ∧ (f.src = 126 → 97 ≤ f.dest.toNat → f.dest.toNat ≤ 126 → sDropped .address)
             ∧ (f.dest = 127 → f.src = 126 ∨ f.src = 0 ∧ f.kind ≠ kindEcho → fDropped .returned)
             ∧ (f.src = 126 → 1 ≤ f.dest.toNat → f.dest.toNat ≤ 96 → fDropped .unclaimedPass)
             ∧ (97 ≤ f.src.toNat → f.src ≠ 126 → fDropped .address)
             ∧ (f.src = 126 ∨ f.src = 0 ∧ f.kind ≠ kindEcho → f.dest = 0 ∨ 97 ≤ f.dest.toNat ∧ f.dest.toNat ≤ 126 → fDropped .address)
             ∧ (1 ≤ f.src.toNat → f.src.toNat ≤ 96 → f.kind ≠ kindSense → f.kind ≠ kindLightcount → f.kind ≠ kindNodeFault →
                 ∃ t : State, exec (.fInFrame chars) s = .next t ∧ OnlyChanges [.fIn, .fInDrops, .missing] s t
                   ∧ t.counters.fInDrops = modifyAt s.counters.fInDrops FInDrop.kind.index (· + 1)
                   ∧ t.counters.fIn = { s.counters.fIn with good := s.counters.fIn.good + 1, dropped := s.counters.fIn.dropped + 1 }
                   ∧ ∀ a, 1 ≤ a → a ≤ 96 → t.field.isMissing a = (decide (a ≠ f.src.toNat) && s.field.isMissing a)))
    ∧ (∀ (c : Instr) (f : Frame) (s : State), showFrame c = some f → 1 ≤ f.dest.toNat ∧ f.dest.toNat ≤ 96 ∨ f.dest = 127 → s.settled →
         let dropped : SInDrop → Prop := fun why => exec c s = .next
           { s with
             counters := { s.counters with
               sIn := { s.counters.sIn with good := s.counters.sIn.good + 1, dropped := s.counters.sIn.dropped + 1 }
               sInDrops := modifyAt s.counters.sInDrops why.index (· + 1) } }
         let setpoint := f.kind = kindDrive ∨ f.kind = kindSwitch ∨ f.kind = kindRotor
         let foreign := f.kind = kindEcho ∨ f.kind = kindSense ∨ f.kind = kindLightcount ∨ f.kind = kindNodeFault ∨ f.kind = kindMgmt
           ∨ f.kind = kindReply ∨ f.kind = kindEvent
         let length := if f.kind = kindSwitch then 2 else 3
         (s.mode = .starting → dropped .starting)
           ∧ (s.mode ≠ .starting → foreign → dropped .kind)
           ∧ (s.mode ≠ .starting → setpoint → f.payload.length ≠ length → dropped .length)
           ∧ (s.mode ≠ .starting → setpoint → f.payload.length = length → f.dest = 127 → dropped .broadcast)
           ∧ (s.mode ≠ .starting → setpoint → f.payload.length = length → f.dest ≠ 127 → s.qualified = false → dropped .loopNotReady)
           ∧ (s.mode ≠ .starting → ¬ foreign → ¬ setpoint → f.kind ≠ kindLevel → f.kind ≠ kindAllStop →
               (s.field.pass.length < 32 → exec c s = .next
                   { s with
                     counters := { s.counters with
                       sIn := { s.counters.sIn with good := s.counters.sIn.good + 1, forwarded := s.counters.sIn.forwarded + 1 } }
                     field := FieldPort.grant { s.field with pass := s.field.pass ++ [f] } })
                 ∧ (32 ≤ s.field.pass.length → ∃ t : State, exec c s = .next t
                     ∧ t.counters.sIn = { s.counters.sIn with good := s.counters.sIn.good + 1, dropped := s.counters.sIn.dropped + 1 }
                     ∧ t.counters.sInDrops = modifyAt s.counters.sInDrops SInDrop.passOverflow.index (· + 1)
                     ∧ t.report.flags.getLsbD EventKind.passOverflow.code = true
                     ∧ OnlyChanges [.sIn, .sInDrops, .link, .sOut, .report] s t)))

/-! ## Management, Reporting and Stored Settings (Chapter 10) -/

/-- R157, R163, R166, R167: a MGMT frame finding 4 requests in the intake is dropped with MGMT_OVERFLOW; finding others there and 4 replies
waiting it joins them. Otherwise it is judged: shorter than 2 bytes BAD_LENGTH, an unknown code UNKNOWN_REQUEST, in STARTING BUSY unless it
is IDENTIFY or READ FLAGS, arguments that spell no request BAD_LENGTH, but for a WRITE TABLE or a LOCATE cut short, which R170 and R63 judge
as far as its bytes go (R180, log entry 35); each is answered with its tag and changes nothing else. R163, R165: when S-out completes a
frame, the sent counter of its kind increases by 1 and the oldest waiting frame is taken; with no request in the intake that is all. Of one
waiting request, it stays while 4 replies wait and is carried out once fewer do (log entry 3). (That the one byte of a payload is its tag is
the model's reading, log entry 25.) R166, R181, Table 11-2: a REPLY goes to address 126 with the tag, the status code and the result. R164,
R172, R173, R182, Table 11-5: raising an event sets its flag; masked, it does no more; else its EVENT frame, with kind, subject, day,
virtual second and detail, joins the Upstream Queue as its newest frame where fewer than 28 frames other than REPLY wait there, and is
refused otherwise, which sets REPORT_OVERFLOW and is counted. -/
def Obligations.RequestsWaitAndAreCheckedInOrder : Prop :=
  (∀ (payload : List Byte) (s : State),
     (4 ≤ s.mgmt.intake.length →
         exec (.unknownRequest payload) s = .next ((s.countSIn PortTotals.addGood).dropSIn .mgmtOverflow))
       ∧ (s.mgmt.intake.length < 4 → 4 ≤ s.repliesWaiting →
           exec (.unknownRequest payload) s = .next
             { s.received with mgmt := { s.mgmt with intake := s.mgmt.intake ++ [payload] } })
       ∧ (s.mgmt.intake = [] → s.repliesWaiting < 4 →
           (payload = [] → exec (.unknownRequest payload) s = .next (reply 0 .badLength [] s.received))
             ∧ (∀ tag, payload = [tag] → exec (.unknownRequest payload) s = .next (reply tag .badLength [] s.received))
             ∧ ∀ tag code args, payload = tag :: code :: args →
                 (code = 0 ∨ 35 ≤ code.toNat → exec (.unknownRequest payload) s = .next (reply tag .unknownRequest [] s.received))
                   ∧ (1 ≤ code.toNat → code.toNat ≤ 34 → s.mode = .starting → code ≠ 1 → code ≠ 5 →
                       exec (.unknownRequest payload) s = .next (reply tag .busy [] s.received))
                   ∧ (1 ≤ code.toNat → code.toNat ≤ 34 → s.mode ≠ .starting → requestOf code args = none → code ≠ 3 → code ≠ 14 →
                       exec (.unknownRequest payload) s = .next (reply tag .badLength [] s.received))
                   ∧ (s.mode ≠ .starting → code = 3 → args = [] → exec (.unknownRequest payload) s = .next
                       (reply tag (if s.store.writing.isSome = true then .busy else .badLength) [] s.received))
                   ∧ (s.mode ≠ .starting → code = 3 → ∀ table, args = [table] → exec (.unknownRequest payload) s = .next
                       (reply tag (match TableId.ofCode table.toNat with
                         | none => .badValue
                         | some id =>
                           if s.store.writing.isSome = true then .busy
                           else if id.isSafety = true ∧ s.mode ≠ .hold then .wrongMode else .badLength) [] s.received))
                   ∧ (s.mode ≠ .starting → code = 14 → args = [] → exec (.unknownRequest payload) s = .next
                       (reply tag (if s.mode = .hold then .badValue else .wrongMode) [] s.received))))
    ∧ (∀ (s : State) (f : Frame), s.link.transmitting = some f →
         let u : State :=
           { s with
             counters := { s.counters with
               sOut :=
                 if f.kind = kindReply then { s.counters.sOut with replies := s.counters.sOut.replies + 1 }
                 else if f.kind = kindEvent then { s.counters.sOut with events := s.counters.sOut.events + 1 }
                 else { s.counters.sOut with reports := s.counters.sOut.reports + 1 } }
             link := match s.link.upstream with
               | [] => { upstream := [], transmitting := none }
               | g :: rest => { upstream := rest, transmitting := some g } }
         (s.mgmt.intake = [] ∨ 4 ≤ u.repliesWaiting → exec .sOutTransmitComplete s = .next u)
           ∧ ∀ p, s.mgmt.intake = [p] → u.repliesWaiting < 4 →
               exec .sOutTransmitComplete s = .next (runPayload p { u with mgmt := { u.mgmt with intake := [] } }))
    ∧ (∀ (s : State) (f : Frame),
         let sent : ShowLink := match s.link.transmitting, s.link.upstream with
           | some g, waiting => { transmitting := some g, upstream := waiting ++ [f] }
           | none, [] => { transmitting := some f, upstream := [] }
           | none, g :: waiting => { transmitting := some g, upstream := waiting ++ [f] }
         (∀ (tag : Byte) (st : Status) (result : List Byte),
             f = { dest := 126, src := 0, kind := 0x71, payload := tag :: BitVec.ofNat 8 st.code :: result } →
             reply tag st result s = { s with link := sent })
           ∧ ∀ (k : EventKind) (subject detail : Nat),
               f = { dest := 126, src := 0, kind := 0x72,
                     payload := [BitVec.ofNat 8 k.code, BitVec.ofNat 8 (subject / 256), BitVec.ofNat 8 subject,
                       BitVec.ofNat 8 (s.clock.day / 256), BitVec.ofNat 8 s.clock.day,
                       BitVec.ofNat 8 (s.clock.virtualTime / 1000 / 65536), BitVec.ofNat 8 (s.clock.virtualTime / 1000 / 256),
                       BitVec.ofNat 8 (s.clock.virtualTime / 1000), BitVec.ofNat 8 (detail / 256), BitVec.ofNat 8 detail] } →
               let latched : ReportUnit := { s.report with flags := s.report.flags ||| BitVec.ofNat 32 (2 ^ k.code) }
               raise k subject detail s =
                 if s.tables.mask.getLsbD k.code = true then { s with report := latched }
                 else if (s.link.upstream.filter fun g => g.kind ≠ 0x71).length < 28 then { s with report := latched, link := sent }
                 else { s with
                   report := { latched with overflow := true }
                   counters := { s.counters with sOut := { s.counters.sOut with refused := s.counters.sOut.refused + 1 } } })
    ∧ [EventKind.loopDown, .loopUp, .nodeMissing, .nodeFault, .passOverflow, .routeGranted, .routeTimeout, .routeRefused, .blockStray,
        .turnoutFault, .switchRefused, .trainHalted, .trainLost, .trainArrived, .earlyEntry, .guideTimeout, .calDone, .calClamped,
        .clockJumped, .slewDone, .ambientStale, .rotorHomed, .rotorStopped, .rotorHalted, .cueFired, .cueActionRefused, .cueChainLimit,
        .cueReport, .holdReached, .storeDone, .storeFailed, .storeInvalid].map EventKind.code = List.range 32
    ∧ [Status.ok, .accepted, .busy, .wrongMode, .notReady, .badIndex, .badValue, .badLength, .duplicate, .inUse, .notAvailable,
        .unknownRequest].map Status.code = List.range 12

/-- R170, R171, R173, R181: IDENTIFY and READ FLAGS in every part mode, and past STARTING READ COUNTERS, READ TABLE and READ STATE, are
answered with what stands, or refused in their rules' order. READ FLAGS clears every flag it carried and READ STATE of the rotors their lap
flags; nothing else changes. R2, R20, R35, R66, R93, R108, R129, R141, R155 with R179 and R181: the items that READ STATE returns for each
block, in their order, and their bytes (where R179 and R181 leave the byte layout open it is the model's reading: log entries 11, 12, 14, 34
and 36; what a range past the last subject and a count of 0 give is log entry 13). -/
def Obligations.ReadingRequestsAnswerWhatStands : Prop :=
  (∀ (tag table start count group : Byte) (s : State), s.mgmt.intake = [] → s.repliesWaiting < 4 →
    exec (.identify tag) s = .next (reply tag .ok
         [0x03, 0x16, 1, byte s.mode.code, if s.store.writing.isSome then 1 else 0,
           if s.store.image.mark = true ∧ s.store.image.crcMatches = true then 0 else 1] s.received)
       ∧ exec (.readFlags tag) s = .next (reply tag .ok (word32Bytes s.report.flags ++ [if s.report.overflow then 1 else 0])
           { s.received with report := { flags := 0, overflow := false } })
       ∧ (s.mode ≠ .starting →
           (∀ cs : List Counter,
               (group = 0 ∧ cs = [s.received.counters.sIn.good, s.counters.sIn.checkErrors, s.counters.sIn.formatErrors,
                   s.counters.sIn.forwarded, s.received.counters.sIn.consumed, s.counters.sIn.dropped]
                 ∨ group = 1 ∧ cs = s.counters.sInDrops.toList
                 ∨ group = 2 ∧ cs = [s.counters.fIn.good, s.counters.fIn.checkErrors, s.counters.fIn.formatErrors, s.counters.fIn.forwarded,
                   s.counters.fIn.consumed, s.counters.fIn.dropped]
                 ∨ group = 3 ∧ cs = s.counters.fInDrops.toList
                 ∨ group = 4 ∧ cs = [s.counters.fOut.sentUrgent, s.counters.fOut.sentEngine, s.counters.fOut.sentPass, s.counters.fOut.purged]
                 ∨ group = 5 ∧ cs = [s.counters.sOut.replies, s.counters.sOut.events, s.counters.sOut.reports, s.counters.sOut.refused]
                 ∨ group = 6 ∧ cs = [s.counters.block.ambientAccepted, s.counters.block.ambientRejected, s.counters.block.runsDeferred,
                   s.counters.block.cueDiscarded]) →
               exec (.readCounters tag group) s = .next (reply tag .ok (cs.flatMap word32Bytes) s.received))
             ∧ (7 ≤ group.toNat → exec (.readCounters tag group) s = .next (reply tag .badValue [] s.received))
             ∧ (TableId.ofCode table.toNat = none → exec (.readTable tag table start count) s = .next (reply tag .badValue [] s.received))
             ∧ (∀ id, TableId.ofCode table.toNat = some id →
                 let bytes := tableBytes s.tables id start.toNat count.toNat
                 exec (.readTable tag table start count) s = .next
                   (if id.entries ≤ start.toNat then reply tag .badIndex [] s.received
                    else if count = 0 ∨ id.entries < start.toNat + count.toNat ∨ 46 < bytes.length then reply tag .badLength [] s.received
                    else reply tag .ok bytes s.received))
             ∧ (StateBlock.ofCode table.toNat = none → exec (.readState tag table start count) s = .next (reply tag .badValue [] s.received))
             ∧ (∀ b, StateBlock.ofCode table.toNat = some b → b.subjects = none →
                 exec (.readState tag table start count) s = .next (reply tag .ok (blockWide s.received b) s.received))
             ∧ ∀ b n, StateBlock.ofCode table.toNat = some b → b.subjects = some n →
                 let bytes := stateResult s.received b start.toNat count.toNat
                 exec (.readState tag table start count) s = .next
                   (if n ≤ start.toNat then reply tag .badIndex [] s.received
                    else if n < start.toNat + count.toNat ∨ 46 < bytes.length then reply tag .badLength [] s.received
                    else reply tag .ok bytes (if b = .rotors then
                        { s.received with rotors := { s.rotors with rotors := tabulate fun r =>
                            if start.toNat ≤ r.val ∧ r.val < start.toNat + count.toNat then
                              { s.rotors.rotors[r] with lapRenewed := false, lapOverrun := false }
                            else s.rotors.rotors[r] } }
                      else s.received))))
    ∧ ∀ s : State,
        let b1 : Nat → Byte := fun n => BitVec.ofNat 8 n
        let b2 : Nat → List Byte := fun n => [b1 (n / 256), b1 n]
        let b3 : Nat → List Byte := fun n => [b1 (n / 65536), b1 (n / 256), b1 n]
        let b4 : Nat → List Byte := fun n => [b1 (n / 16777216), b1 (n / 65536), b1 (n / 256), b1 n]
        let opt : Option Nat → Byte := fun x => b1 (x.getD 0xFF)
        let yes : List Bool → Byte := fun bs => b1 ((bs.zipIdx.map fun p => if p.1 then 2 ^ p.2 else 0).sum)
        let slots : Nat → List BlockId → List Byte := fun n bs =>
          b1 bs.length :: bs.map (fun b => b1 b.val) ++ List.replicate (n - bs.length) 0
        let detection : Detection → Nat := fun x => [Detection.clear, .occupied, .unknown].idxOf x
        let ramp : RampDirection → Byte := fun x => b1 ([RampDirection.up, .down, .none].idxOf x)
        blockWide s .management =
            [b1 ([PartMode.starting, .hold, .run, .holding].idxOf s.mode), if s.store.writing.isSome then 1 else 0,
              if s.store.image.mark = true ∧ s.store.image.crcMatches = true then 0 else 1, b1 s.mgmt.intake.length, b1 s.repliesWaiting]
          ∧ blockWide s .loop =
            [b1 ([LoopState.down, .proving, .qualified].idxOf s.loop.state), opt (s.loop.downCause.map fun c => [DownCause.errors, .timeout].idxOf c),
              s.loop.echoNumber, b1 s.loop.goodCount, b1 s.loop.errorCount]
              ++ ((List.range 12).map fun i => yes ((List.range 8).map fun k => s.field.missing.getLsbD (8 * i + k)))
          ∧ blockWide s .clock =
            b4 s.clock.virtualTime ++ b3 (s.clock.virtualTime / 1000) ++ b2 s.clock.day ++ b2 s.clock.rate ++ [b1 s.clock.fraction]
              ++ (match s.clock.slew with | none => [0xFF, 0xFF, 0xFF, 0xFF] | some r => b4 (r % 4294967296).toNat)
              ++ b2 s.clock.sky ++ b2 s.clock.ambient ++ b2 s.clock.lastRatio ++ b2 s.clock.lastCurve
              ++ [yes [s.clock.ambientStale, s.clock.ambientTimer.isSome]]
          ∧ blockWide s .channels = [b1 s.lamps.flashCount, b1 s.lamps.restatementCount]
          ∧ blockWide s .cues = [b1 s.cues.pendingEvents.length]
          ∧ (∀ x : StateBlock, x ∈ [StateBlock.inputs, .blocks, .trains, .rotors, .views, .indications, .turnouts, .paths, .requests] →
              blockWide s x = [])
          ∧ (∀ (x : StateBlock) (first count : Nat), stateResult s x first count =
              blockWide s x ++ ((List.range count).map fun i => subjectRecord s x (first + i)).flatten)
          ∧ (∀ e : EntryId, subjectRecord s .inputs e.val =
              [if (s.sensor e).raw then 0 else 1, if (s.sensor e).filtered then 0 else 1, if (s.sensor e).fresh then 1 else 0,
                yes [(s.sensor e).timer.isSome]])
          ∧ (∀ b : BlockId, subjectRecord s .views b.val = [b1 (detection (s.view b).detection), yes [(s.view b).fullyFresh]])
          ∧ (∀ u : TurnoutId, subjectRecord s .indications u.val =
              [b1 ([Indication.unknown, .normal, .reverse, .both, .none].idxOf s.filter.turnouts[u])])
          ∧ (∀ b : BlockId,
              let x := s.block b
              subjectRecord s .blocks b.val =
                [b1 (if (s.blockEntry b).enabled = false then 0 else if x.holding.isSome then 1 else match x.detection with
                    | .clear => 2
                    | .occupied => 3
                    | .unknown => 4),
                  opt (x.holding.map fun h => h.1.val), opt (x.holding.map fun h => [Role.occupied, .reserved].idxOf h.2),
                  b1 (detection x.detection), yes [x.intruded], b1 ([CrossingState.idle, .warning, .active].idxOf x.crossing),
                  if ∃ tr : TrainId, b ∈ (s.path tr).reserved.take (s.path tr).authorised then 0 else 1])
          ∧ (∀ u : TurnoutId,
              let x := s.turnout u
              subjectRecord s .turnouts u.val =
                [b1 ([TurnoutCondition.free, .moving, .set, .fault].idxOf x.condition),
                  b1 ([none, some Position.normal, some .reverse].idxOf x.position),
                  opt (x.commanded.map fun p => [Position.normal, .reverse].idxOf p), opt (x.lock.map fun t => t.val),
                  b1 ([Indication.unknown, .normal, .reverse, .both, .none].idxOf x.indication)])
          ∧ (∀ tr : TrainId, subjectRecord s .paths tr.val =
              slots 4 (s.path tr).occupied ++ slots 8 (s.path tr).reserved ++ [b1 (s.path tr).authorised])
          ∧ (∀ i : Nat, subjectRecord s .requests i = match s.interlock.queue[i]? with
              | none => List.replicate 6 0xFF
              | some q => [b1 q.train.val, b1 q.route.val] ++ b2 q.waitLimit
                  ++ [b1 ([RequestSource.mgmt, .cue, .buttonCue].idxOf q.source), yes [q.waitTimer.isSome]])
          ∧ (∀ tr : TrainId,
              let x := s.train tr
              let c := x.calibration
              subjectRecord s .trains tr.val =
                [b1 ([TrainCondition.absent, .lost, .stopped, .running, .braking, .halted].idxOf x.condition),
                  opt (x.cause.map fun c => [HaltCause.loop, .overrun, .intrusion, .miss, .node, .length, .stopAll].idxOf c),
                  b1 x.step, b1 x.target, b1 x.guided, b1 x.permitted, b1 x.accumulator, ramp x.ramp]
                ++ b4 x.position ++ [b1 x.carry] ++ b4 x.unseen ++ b4 x.missAllowance
                ++ [yes [x.guideTimer.isSome, x.armed, c.any fun c => c.entryTime.isSome]]
                ++ [opt (c.map fun c => c.block.val), opt (c.map fun c => c.step)] ++ b3 ((c.map fun c => c.updates).getD 0xFFFFFF))
          ∧ (∀ ch : ChannelId,
              let x := s.channel ch
              let mine := (s.patchEntry ch).mapped = true ∧ (s.patchEntry ch).ownership ≠ .show
              subjectRecord s .channels ch.val =
                [if x.lit then 0 else 1, yes [x.staggerTimer.isSome, x.overrideTimer.isSome, decide (mine ∧ x.offered ≠ some x.emitted)],
                  opt x.override, b1 x.showValue, b1 x.target, b1 x.output, b1 x.emitted, opt x.offered])
          ∧ (∀ r : RotorId,
              let x := s.rotor r
              subjectRecord s .rotors r.val =
                [b1 ([RotorCondition.unhomed, .homing, .stopped, .running, .stopping, .halted].idxOf x.condition),
                  opt (x.cause.map fun c => [RotorCause.stall, .loop, .node, .stopAll, .requested].idxOf c),
                  b1 x.step, b1 x.target, opt x.pendingTarget, b1 x.accumulator, ramp x.ramp]
                ++ b3 x.runTime ++ [yes [x.indexSeen, x.lapRenewed, x.lapOverrun, x.refreshTimer.isSome]]
                ++ b2 (x.lastLap.getD 0xFFFF) ++ b2 (x.phase.getD 0xFFFF) ++ b2 x.revolutions)
          ∧ ∀ k : CueId,
              let x := s.cue k
              subjectRecord s .cues k.val =
                [b1 ([CueStage.disabled, .waitA, .waitB, .holdOff].idxOf x.stage), b1 x.count,
                  opt (x.openHalf.map fun h => [OpenHalf.a, .b].idxOf h), yes [x.windowTimer.isSome, x.holdOffTimer.isSome]]
                ++ b2 x.fireCount ++ b2 ((x.stamp.map fun p => p.1).getD 0xFFFF) ++ b3 ((x.stamp.map fun p => p.2).getD 0xFFFFFF)

/-- R170: the general checks of WRITE TABLE in their order, and that a refused request changes nothing. Two writes with their effects: a
Block Table entry, in HOLD and for a block no train holds, is stored, its intruded flag cleared and its crossing IDLE (R36); a Patch Table
entry whose output no other mapped entry names is stored with its channel set anew (R109). The own checks of each table over a request of
any number of entries, compared with the table as it would stand with all of them applied: R36, R38, R51 over the request check by check,
R21, R67, R109, R130, R142 entry by entry (log entry 15), and R1, R95, R102, R105. R171, R173, R170: CLEAR COUNTERS sets every counter to 0,
its own frame's count included. WRITE MASK stores the mask, is refused with BUSY while a store operation runs, and changes nothing else; it
does what a WRITE TABLE of the Report Mask does. -/
def Obligations.WritesAreCheckedThenApplied : Prop :=
  (∀ (tag table start : Byte) (bytes : List Byte) (s : State), s.ready →
     (TableId.ofCode table.toNat = none → exec (.writeTable tag table start bytes) s = .next (reply tag .badValue [] s.received))
       ∧ (∀ id, TableId.ofCode table.toNat = some id →
           (s.store.writing.isSome = true → exec (.writeTable tag table start bytes) s = .next (reply tag .busy [] s.received))
             ∧ (s.store.writing = none → id.isSafety = true → s.mode ≠ .hold →
                 exec (.writeTable tag table start bytes) s = .next (reply tag .wrongMode [] s.received))
             ∧ (s.store.writing = none → (id.isSafety = true → s.mode = .hold) → id.entries ≤ start.toNat →
                 exec (.writeTable tag table start bytes) s = .next (reply tag .badIndex [] s.received))
             ∧ (s.store.writing = none → (id.isSafety = true → s.mode = .hold) → start.toNat < id.entries →
                 bytes = [] ∨ bytes.length % id.entrySize bytes ≠ 0 ∨ id.entries < start.toNat + bytes.length / id.entrySize bytes →
                 exec (.writeTable tag table start bytes) s = .next (reply tag .badLength [] s.received)))
       ∧ (∀ st, st ≠ .ok → (writeTable table start bytes s).1 = st → (writeTable table start bytes s).2 = s)
       ∧ (∀ (b : BlockId) (e : BlockEntry), table = 0 → start.toNat = b.val → bytes.length = 6 → s.store.writing = none → s.mode = .hold →
           (BlockEntry.decode bytes = none → exec (.writeTable tag table start bytes) s = .next (reply tag .badValue [] s.received))
             ∧ (BlockEntry.decode bytes = some e → (s.block b).holding.isSome = true →
                 exec (.writeTable tag table start bytes) s = .next (reply tag .inUse [] s.received))
             ∧ (BlockEntry.decode bytes = some e → (s.block b).holding = none →
                 exec (.writeTable tag table start bytes) s = .next (reply tag .ok []
                   ({ s.received with tables := { s.tables with blocks := s.tables.blocks.set b e } }.updBlock b fun x =>
                     { x with intruded := false, crossing := .idle, warnTimer := none }))))
       ∧ ∀ (c : ChannelId) (e : PatchEntry), table = 7 → start.toNat = c.val → bytes.length = 14 → s.store.writing = none →
           PatchEntry.decode bytes = some e →
           (e.mapped = true → ∀ o, o ≠ c → (s.patchEntry o).mapped = true →
             ¬ ((s.patchEntry o).node = e.node ∧ (s.patchEntry o).nodeChannel = e.nodeChannel)) →
           let mine := e.mapped = true ∧ e.ownership ≠ .show
           let merges : PatchEntry → Prop := fun p => p.mapped = true ∧ p.ownership = .merge
           exec (.writeTable tag table start bytes) s = .next (reply tag .ok []
             ({ s.received with tables := { s.tables with patch := s.tables.patch.set c e } }.updChannel c fun x =>
               { lit := false, staggerTimer := none, override := none, overrideTimer := none, offered := none
                 showValue := if merges (s.patchEntry c) ∧ merges e then x.showValue else 0
                 target := if mine then min x.target e.ceiling else 0
                 output := if mine then min x.output e.ceiling else 0
                 emitted := if mine then min x.emitted e.ceiling else 0 })))
    ∧ (∀ (tag table start : Byte) (bytes : List Byte) (id : TableId) (s : State), s.ready → TableId.ofCode table.toNat = some id →
        s.store.writing = none → (id.isSafety = true → s.mode = .hold) → bytes ≠ [] → bytes.length % id.entrySize bytes = 0 →
        start.toNat + bytes.length / id.entrySize bytes ≤ id.entries →
        let size := id.entrySize bytes
        let n := bytes.length / size
        let piece : Nat → List Byte := fun i => (bytes.drop (i * size)).take size
        let written : Nat → Bool := fun k => start.toNat ≤ k && k < start.toNat + n
        let given : Nat → List Byte := fun k => piece (k - start.toNat)
        let refused : Status → Prop := fun st => exec (.writeTable tag table start bytes) s = .next (reply tag st [] s.received)
        let passes := (writeTable table start bytes s).1 = .ok
        let anyBad : (List Byte → Bool) → Bool := fun good => (List.range n).any fun i => !good (piece i)
        let judged : Bool → Prop := fun bad => if bad then refused .badValue else passes
        let inTurn : (Nat → List Byte → Option Status) → Prop := fun check =>
          match (List.range n).findSome? fun i => check (start.toNat + i) (piece i) with
          | some st => refused st
          | none => passes
        match id with
        | .block =>
          if anyBad fun p => (BlockEntry.decode p).isSome then refused .badValue
          else if ∃ b : BlockId, written b.val = true ∧ (s.block b).holding.isSome = true then refused .inUse
          else passes
        | .turnout =>
          let on : TurnoutId → Bool := fun u => if written u.val then bitAt (given u.val) 0 0 else (s.turnoutEntry u).enabled
          let place : TurnoutId → Nat × Nat := fun u =>
            if written u.val then (n1 (given u.val) 1, n1 (given u.val) 2) else ((s.turnoutEntry u).node, (s.turnoutEntry u).channel)
          if anyBad fun p => (TurnoutEntry.decode p).isSome then refused .badValue
          else if ∃ u o : TurnoutId, written u.val = true ∧ o ≠ u ∧ on u = true ∧ on o = true ∧ place o = place u then refused .duplicate
          else if ∃ u : TurnoutId, written u.val = true ∧ ((s.turnout u).lock.isSome = true ∨ (s.turnout u).condition = .moving) then refused .inUse
          else passes
        | .route => judged (anyBad fun p => match RouteEntry.decode p with
          | none => false
          | some e => decide (e.blocks.Nodup ∧ e.start ∉ e.blocks ∧ (e.turnouts.map Prod.fst).Nodup
              ∧ ∀ x ∈ e.turnouts, (s.turnoutEntry x.1).block ∈ e.blocks))
        | .train =>
          let on : TrainId → Bool := fun t => if written t.val then bitAt (given t.val) 0 0 else (s.trainEntry t).enabled
          let place : TrainId → Nat × Nat := fun t =>
            if written t.val then (n1 (given t.val) 1, n1 (given t.val) 2) else ((s.trainEntry t).node, (s.trainEntry t).channel)
          let home : TrainId → Option Nat := fun t =>
            if written t.val then (if bitAt (given t.val) 0 3 then some (n1 (given t.val) 14) else none)
            else (s.trainEntry t).home.map fun b => b.val
          inTurn fun k p =>
            if (TrainEntry.decode p).isNone then some .badValue
            else if ∃ t o : TrainId, t.val = k ∧ o ≠ t ∧ on t = true ∧ on o = true ∧ (place o = place t ∨ home t ≠ none ∧ home o = home t) then
              some .duplicate
            else if ∃ t : TrainId, t.val = k ∧ ((s.train t).condition.isLocated = true ∨ (s.train t).condition = .halted) then some .inUse
            else none
        | .sensor =>
          let on : EntryId → Bool := fun e => if written e.val then bitAt (given e.val) 0 0 else (s.sensorEntry e).enabled
          let place : EntryId → Nat × Nat := fun e =>
            if written e.val then (n1 (given e.val) 1, n1 (given e.val) 2) else ((s.sensorEntry e).node, (s.sensorEntry e).input)
          let use : EntryId → Option SensorFunction := fun e =>
            if written e.val then SensorFunction.ofBytes (n1 (given e.val) 3) (n1 (given e.val) 4) else some (s.sensorEntry e).function
          let busy : Option SensorFunction → Bool := fun f => match f with
            | some (.occupancy b) => (s.block b).holding.isSome
            | some (.turnoutNormal u) => (s.turnout u).lock.isSome
            | some (.turnoutReverse u) => (s.turnout u).lock.isSome
            | some (.index r) => (s.rotor r).condition.isTurning
            | _ => false
          inTurn fun k p =>
            if (SensorEntry.decode p).isNone then some .badValue
            else if ∃ (e : EntryId) (b : BlockId), e.val = k ∧ on e = true ∧ use e = some (.occupancy b)
                ∧ 2 < ((List.finRange 128).filter fun o => on o && decide (use o = some (.occupancy b))).length then some .badValue
            else if ∃ e o : EntryId, e.val = k ∧ o ≠ e ∧ on e = true ∧ on o = true ∧ place o = place e then some .duplicate
            else if ∃ (e o : EntryId) (u : TurnoutId), e.val = k ∧ o ≠ e ∧ on e = true ∧ on o = true ∧ use o = use e
                ∧ (use e = some (.turnoutNormal u) ∨ use e = some (.turnoutReverse u)) then some .duplicate
            else if ∃ e : EntryId, e.val = k ∧ (busy (some (s.sensorEntry e).function) = true ∨ busy (use e) = true) then some .inUse
            else none
        | .patch =>
          let on : ChannelId → Bool := fun c => if written c.val then bitAt (given c.val) 0 0 else (s.patchEntry c).mapped
          let place : ChannelId → Nat × Nat := fun c =>
            if written c.val then (n1 (given c.val) 1, n1 (given c.val) 2) else ((s.patchEntry c).node, (s.patchEntry c).nodeChannel)
          inTurn fun k p =>
            if (PatchEntry.decode p).isNone then some .badValue
            else if ∃ c o : ChannelId, c.val = k ∧ o ≠ c ∧ on c = true ∧ on o = true ∧ place o = place c then some .duplicate
            else none
        | .rotor =>
          let on : RotorId → Bool := fun r => if written r.val then bitAt (given r.val) 0 0 else (s.rotorEntry r).enabled
          let place : RotorId → Nat × Nat := fun r =>
            if written r.val then (n1 (given r.val) 1, n1 (given r.val) 2) else ((s.rotorEntry r).node, (s.rotorEntry r).channel)
          inTurn fun k p =>
            if (RotorEntry.decode p).isNone then some .badValue
            else if ∃ r o : RotorId, r.val = k ∧ o ≠ r ∧ on r = true ∧ on o = true ∧ place o = place r then some .duplicate
            else if ∃ r : RotorId, r.val = k ∧ (s.rotor r).condition.isTurning = true then some .inUse
            else none
        | .cue => inTurn fun k p => match CueEntry.decode p with
          | none => some .badValue
          | some e =>
            if ∃ c : CueId, c.val = k ∧ (e.triggerA = .cueFired c ∨ e.triggerB = some (.cueFired c)) then some .badValue else none
        | .loop => judged (anyBad fun p => (LoopConfig.decode p).isSome)
        | .sky => judged (anyBad fun p => (decodeSky p).isSome)
        | .ambient => judged (anyBad fun p => (decodeAmbient p).isSome)
        | .clock => judged (anyBad fun p => (ClockConfig.decode p).isSome)
        | .policy => passes
        | .mask => passes)
    ∧ (∀ (tag : Byte) (mask : BitVec 32) (s : State), s.ready →
         exec (.clearCounters tag) s = .next (reply tag .ok [] { s with counters := Counters.zero })
           ∧ exec (.writeMask tag mask) s = .next
               (if s.store.writing.isSome then reply tag .busy [] s.received
                else reply tag .ok [] { s.received with tables := { s.tables with mask := mask } })
           ∧ exec (.writeTable tag 13 0 (word32Bytes mask)) s = exec (.writeMask tag mask) s)

/-- R170, R179, R183: when a WRITE TABLE of one entry is accepted, the entry its bytes spell is in force at its index, and READ TABLE
returns that entry's bytes, for each of the fourteen tables. What the write does besides, before the Route Queue is served: a block's
intruded flag and crossing are cleared (R36); a turnout is as after power-on (R38); the pending requests for a route are removed with
ROUTE_REFUSED, cause ROUTE_REWRITTEN (R51); a train gives up its blocks and is ABSENT, or LOST with TRAIN_LOST where it was not, or is
located at its home block (R67, R89); a Sensor Map entry is STALE and the detections and indications it concerned or concerns are derived
anew and told (R22); a rotor is UNHOMED, its refresh timer by its entry (R130); a cue's progress is set anew (R142); S follows a new Sky
Curve (R102); the ambient timer follows a changed ambient node (R95); the other tables are stored and no more (R1, R18, R105, R173). The
request itself, for every table and any number of entries, is answered with the status of the checks: OK on the state of the write, in which
no request is granted, or another status with nothing changed. -/
def Obligations.AnAcceptedEntryIsReadBack : Prop :=
  (∀ (table start : Byte) (bytes : List Byte) (id : TableId) (s t : State), TableId.ofCode table.toNat = some id →
     bytes.length = id.entrySize bytes → writeTable table start bytes s = (.ok, t) →
     let back := tableBytes t.tables id start.toNat 1
     match id with
     | .block => ∃ e, BlockEntry.decode bytes = some e ∧ back = e.encode
     | .turnout => ∃ e, TurnoutEntry.decode bytes = some e ∧ back = e.encode
     | .route => ∃ e, RouteEntry.decode bytes = some e ∧ back = e.encode
     | .train => ∃ e, TrainEntry.decode bytes = some e ∧ back = e.encode
     | .sensor => ∃ e, SensorEntry.decode bytes = some e ∧ back = e.encode
     | .loop => ∃ e, LoopConfig.decode bytes = some e ∧ back = e.encode
     | .policy => ∃ e, PolicyEntry.decode bytes = some e ∧ back = e.encode
     | .patch => ∃ e, PatchEntry.decode bytes = some e ∧ back = e.encode
     | .sky => ∃ e, decodeSky bytes = some e ∧ back = encodeSky e
     | .ambient => ∃ e, decodeAmbient bytes = some e ∧ back = encodeAmbient e
     | .clock => ∃ e, ClockConfig.decode bytes = some e ∧ back = e.encode
     | .rotor => ∃ e, RotorEntry.decode bytes = some e ∧ back = e.encode
     | .cue => ∃ e, CueEntry.decode bytes = some e ∧ back = e.encode
     | .mask => back = bytes)
    ∧ (∀ (table start : Byte) (bytes : List Byte) (id : TableId) (s t : State), TableId.ofCode table.toNat = some id →
        bytes.length = id.entrySize bytes → writeTable table start bytes s = (.ok, t) →
        match id with
        | .block => ∀ b : BlockId, start.toNat = b.val → ∃ e, BlockEntry.decode bytes = some e
            ∧ t.tables = { s.tables with blocks := s.tables.blocks.set b e }
            ∧ (∀ c, t.block c = if c = b then { s.block b with intruded := false, crossing := .idle, warnTimer := none } else s.block c)
            ∧ (t.interlock.serviceDue = true ↔ s.interlock.serviceDue = true ∨ e.enabled = true ∧ (s.block b).detection = .clear)
            ∧ OnlyChanges [.otherTables, .blocks, .serviceDue] s t
        | .turnout => ∀ u : TurnoutId, start.toNat = u.val → ∃ e, TurnoutEntry.decode bytes = some e
            ∧ t.tables = { s.tables with turnouts := s.tables.turnouts.set u e }
            ∧ (∀ v, t.turnout v = if v = u then { condition := .free, position := none, commanded := none, lock := none, throwTimer := none
                                                  indication := s.filter.turnouts[u] } else s.turnout v)
            ∧ OnlyChanges [.otherTables, .turnouts] s t
        | .route => s.interlock.oneRequestEach → ∀ r : RouteId, start.toNat = r.val → ∃ e, RouteEntry.decode bytes = some e
            ∧ t.tables = { s.tables with routes := s.tables.routes.set r e }
            ∧ t.interlock = { s.interlock with queue := s.interlock.queue.filter fun q => q.route ≠ r }
            ∧ (∀ q, s.interlock.queue.filter (fun q => q.route = r) = [q] →
                t.report = (raise .routeRefused q.train.val (r.val * 256 + 1) s).report
                  ∧ t.link = (raise .routeRefused q.train.val (r.val * 256 + 1) s).link)
            ∧ ((∃ q ∈ s.interlock.queue, q.route = r) → t.report.flags.getLsbD EventKind.routeRefused.code = true)
            ∧ ((∀ q ∈ s.interlock.queue, q.route ≠ r) → OnlyChanges [.otherTables] s t)
            ∧ OnlyChanges [.otherTables, .queue, .link, .sOut, .report] s t
        | .train => s.trackSafe → ∀ x : TrainId, start.toNat = x.val → ∃ e, TrainEntry.decode bytes = some e
            ∧ t.tables = { s.tables with trains := s.tables.trains.set x e }
            ∧ (∀ y, y ≠ x → t.train y = s.train y ∧ t.path y = s.path y)
            ∧ (let fresh : TrainRecord :=
                 { condition := if e.enabled then .lost else .absent, cause := none, step := 0, target := 0, guided := 0, permitted := 0
                   accumulator := 0, ramp := .none, position := 0, carry := 0, unseen := 0, missAllowance := e.missDistance * 1000
                   guideTimer := none, refreshTimer := if e.enabled then some 1000 else none, armed := e.enabled, calibration := none }
               let mine : BlockId → Prop := fun b => b ∈ (s.path x).occupied ∨ b ∈ (s.path x).reserved
               let found : BlockId → Prop := fun b => e.home = some b ∧ e.enabled = true ∧ s.qualified = true ∧ (s.view b).detection = .occupied
                 ∧ (s.view b).fullyFresh = true ∧ ((s.block b).holding = none ∨ mine b) ∧ (s.blockEntry b).enabled = true
                 ∧ (s.block b).detection = .occupied
               (∀ b, found b → t.path x = { occupied := [b], reserved := [], authorised := 0 }
                   ∧ (∀ c, c ≠ b → mine c → (t.block c).holding = none) ∧ (t.block b).holding = some (x, .occupied)
                   ∧ t.train x = { fresh with
                     condition := .stopped, armed := false, position := (s.blockEntry b).length * 1000
                     missAllowance := e.missDistance * 1000 + (s.blockEntry b).length * 1000 })
                 ∧ ((∀ b, ¬ found b) → t.path x = { occupied := [], reserved := [], authorised := 0 } ∧ t.train x = fresh
                     ∧ ∀ c, mine c → (t.block c).holding = none)
                 ∧ (∀ c, ¬ mine c → ¬ found c → (t.block c).holding = (s.block c).holding))
            ∧ (e.enabled = true → (s.train x).condition ≠ .lost → t.report.flags.getLsbD EventKind.trainLost.code = true)
            ∧ (e.enabled = false ∨ (s.train x).condition = .lost → t.report = s.report ∧ t.link = s.link)
            ∧ OnlyChanges [.trainTable, .blocks, .turnouts, .paths, .serviceDue, .trains, .link, .sOut, .report] s t
        | .sensor => ∀ i : EntryId, start.toNat = i.val → ∃ e, SensorEntry.decode bytes = some e
            ∧ t.tables.sensors = s.tables.sensors.set i e
            ∧ (∀ j, t.sensor j = if j = i then { raw := false, filtered := false, fresh := false, timer := none } else s.sensor j)
            ∧ (let concerns : SensorFunction → Prop := fun f => (s.sensorEntry i).function = f ∨ e.function = f
               (∀ b, t.view b = if concerns (.occupancy b) then
                     deriveBlock { s.tables with sensors := s.tables.sensors.set i e } t.filter.entries b
                   else s.view b)
                 ∧ (∀ b, t.view b ≠ s.view b → (t.block b).detection = (t.view b).detection)
                 ∧ ∀ u : TurnoutId, t.filter.turnouts[u] = (if concerns (.turnoutNormal u) ∨ concerns (.turnoutReverse u) then
                       deriveTurnout { s.tables with sensors := s.tables.sensors.set i e } t.filter.entries u
                     else s.filter.turnouts[u])
                   ∧ (t.filter.turnouts[u] ≠ s.filter.turnouts[u] → (t.turnout u).indication = t.filter.turnouts[u]))
            ∧ t.cues.progress = s.cues.progress ∧ t.rotors = s.rotors ∧ t.lamps = s.lamps ∧ t.clock = s.clock ∧ t.loop = s.loop
        | .loop => ∃ e, LoopConfig.decode bytes = some e ∧ t = { s with tables := { s.tables with loop := e } }
        | .policy => ∀ i : Fin 96, start.toNat = i.val → ∃ e, PolicyEntry.decode bytes = some e
            ∧ t = { s with tables := { s.tables with policy := s.tables.policy.set i e } }
        | .patch => ∀ c : ChannelId, start.toNat = c.val → ∃ e, PatchEntry.decode bytes = some e
            ∧ t.tables = { s.tables with patch := s.tables.patch.set c e } ∧ (∀ d, d ≠ c → t.channel d = s.channel d)
            ∧ OnlyChanges [.otherTables, .channels] s t
        | .sky => ∃ e, decodeSky bytes = some e ∧ t = { s with
            tables := { s.tables with sky := e }, clock := { s.clock with sky := skyLevel e (s.clock.virtualTime / 1000) } }
        | .ambient => ∃ e, decodeAmbient bytes = some e ∧ t = { s with tables := { s.tables with ambient := e } }
        | .clock => ∃ e, ClockConfig.decode bytes = some e ∧ t = { s with
            tables := { s.tables with clock := e }
            clock := if e.ambientNode = s.tables.clock.ambientNode then s.clock else { s.clock with
              ambientStale := false, ambientTimer := if e.ambientNode = 0 then none else some (e.ambientTimeout * 1000) } }
        | .rotor => ∀ r : RotorId, start.toNat = r.val → ∃ e, RotorEntry.decode bytes = some e
            ∧ t = { s with tables := { s.tables with rotors := s.tables.rotors.set r e }, rotors := t.rotors }
            ∧ t.rotors = { s.rotors with rotors := s.rotors.rotors.set r { s.rotor r with
                condition := .unhomed, cause := none, step := 0, target := 0, pendingTarget := none, accumulator := 0, ramp := .none
                runTime := 0, indexSeen := false, lastLap := none, phase := none, refreshTimer := if e.enabled then some 1000 else none } }
        | .cue => ∀ k : CueId, start.toNat = k.val → ∃ e, CueEntry.decode bytes = some e
            ∧ t = { s with tables := { s.tables with cues := s.tables.cues.set k e }, cues := t.cues }
            ∧ t.cues.pendingEvents = s.cues.pendingEvents
            ∧ t.cues.progress = s.cues.progress.set k
                { stage := if e.enabled then .waitA else .disabled, count := 0, openHalf := none, windowTimer := none, holdOffTimer := none
                  fireCount := 0, stamp := none }
        | .mask => t = { s with tables := { s.tables with mask := at0 bytes 0 ++ at0 bytes 1 ++ at0 bytes 2 ++ at0 bytes 3 } })
    ∧ ∀ (tag table start : Byte) (bytes : List Byte) (s t : State) (st : Status), s.ready →
        writeTable table start bytes s.received = (st, t) →
        exec (.writeTable tag table start bytes) s = .next (reply tag st []
          (if st = .ok then { t with interlock := { t.interlock with serviceDue := false } } else s.received))

/-- R168, R169, R82, R139: SET MODE. To RUN in HOLD it needs the ring QUALIFIED, else NOT_READY; it recomputes every permitted step and
serves the Route Queue from oldest to newest (R53), ahead of the reply. In RUN it changes nothing, and in HOLDING it is refused with
WRONG_MODE. To HOLD in RUN the mode becomes HOLDING and the rotors go to STOPPING, or, every step being 0, HOLD at once with HOLD_REACHED
ahead of the reply. In HOLDING and HOLD it changes nothing. Another value is BAD_VALUE. -/
def Obligations.SetModeMovesBetweenHoldAndRun : Prop :=
  ∀ (tag mode : Byte) (s : State), s.ready →
    let answered : Status → Prop := fun st => exec (.setMode tag mode) s = .next (reply tag st [] s.received)
    let repermitted : State → Prop := fun t => ∀ x, t.train x = { s.train x with
      permitted := permittedStep t x
      condition := if (s.train x).condition.isLocated = true ∧ permittedStep t x < (s.train x).step then .braking
        else (s.train x).condition }
    let stopping : RotorRecord → RotorRecord := fun x => match x.condition with
      | .running => { x with condition := .stopping }
      | .homing => { x with condition := .stopping, pendingTarget := none }
      | _ => x
    (2 ≤ mode.toNat → answered .badValue)
      ∧ (mode = 1 → s.mode = .run → answered .ok)
      ∧ (mode = 1 → s.mode = .holding → answered .wrongMode)
      ∧ (mode = 1 → s.mode = .hold → s.qualified = false → answered .notReady)
      ∧ (mode = 1 → s.mode = .hold → s.qualified = true → ∃ t : State, t.mode = .run ∧ repermitted t ∧ OnlyChanges [.sIn, .mode, .trains] s t
          ∧ exec (.setMode tag mode) s = .next (reply tag .ok []
              (s.interlock.queue.foldl (fun u q => if grantable u q = true then grantRoute q u else u) t)))
      ∧ (mode = 0 → s.mode ≠ .run → answered .ok)
      ∧ (mode = 0 → s.mode = .run → ∃ t : State, exec (.setMode tag mode) s = .next (reply tag .ok [] t)
          ∧ repermitted t ∧ (∀ r, t.rotor r = stopping (s.rotor r))
          ∧ (if ∀ x, (s.train x).step = 0 then
              t.mode = .hold ∧ t.report = (raise .holdReached 0xFFFF 0xFFFF s.received).report
                ∧ t.link = (raise .holdReached 0xFFFF 0xFFFF s.received).link
                ∧ OnlyChanges [.sIn, .mode, .trains, .rotors, .link, .sOut, .report] s t
            else t.mode = .holding ∧ OnlyChanges [.sIn, .mode, .trains, .rotors] s t))

/-- R175: STORE is refused with BUSY while a store operation runs; else the running tables are copied, the mark is erased, and it is
answered ACCEPTED. The write's end makes the copy the stored image, VALID, with STORE_DONE; a write error leaves the image INVALID, with
STORE_FAILED. The running tables are not touched. (What an image holds besides an erased mark is not visible: log entry 23.) -/
def Obligations.StoreWritesACopyOfTheTables : Prop :=
  (∀ (tag : Byte) (s : State), s.ready →
      exec (.store tag) s = .next
        (if s.store.writing.isSome then reply tag .busy [] s.received
         else reply tag .accepted []
           { s.received with store := { s.store with image := { s.store.image with mark := false }, writing := some s.tables } }))
    ∧ ∀ (copy : Tables) (s : State), s.store.writing = some copy →
        exec .storeWriteDone s = .next (raise .storeDone 0xFFFF 0xFFFF
            { s with store := { s.store with image := { tables := copy, crcMatches := true, mark := true }, writing := none } })
          ∧ exec .storeWriteError s = .next (raise .storeFailed 0xFFFF 0xFFFF
              { s with store := { s.store with image := { s.store.image with mark := false }, writing := none } })

/-- R177, R176: RESTART is refused with BUSY while a store operation runs. Otherwise it empties the intake and both links' queues, clears
every flag and counter, sets every block to its values after RESTART under the tables kept, keeps the time, the day and the lamp outputs,
puts out an ALLSTOP and the REPLY OK, and ends in HOLD. RESTORE is refused with BUSY, with WRONG_MODE outside HOLD and with NOT_AVAILABLE on
an INVALID image; otherwise it makes the same reset, is answered ACCEPTED, and the part stays in STARTING for the load. (The model's
choices: that the frames in transmission at the request are gone at once, so that the ALLSTOP and the REPLY stand in transmission, log entry
29; that the old tables stand during the load of RESTORE, log entry 9; that the time base goes on, log entry 5.) -/
def Obligations.RestartAndRestoreResetThePart : Prop :=
  ∀ (tag : Byte) (s : State), s.ready →
    let emptied : State → Status → Prop := fun t st =>
      t.tables = s.tables ∧ t.store.image = s.store.image ∧ t.store.writing = none ∧ t.now = s.now ∧ t.counters = Counters.zero
        ∧ t.report = { flags := 0, overflow := false } ∧ t.mgmt.intake = []
        ∧ t.link = { upstream := [], transmitting := some (replyFrame tag st []) }
        ∧ t.field = { FieldPort.initial with transmitting := some (.urgent, allStopFrame) }
        ∧ t.loop = { LoopMonitor.initial with intervalTimer := t.loop.intervalTimer, watchdog := t.loop.watchdog }
        ∧ t.clock.virtualTime = s.clock.virtualTime ∧ t.clock.day = s.clock.day ∧ t.lamps.flashCount = 0 ∧ t.lamps.restatementCount = 0
        ∧ (∀ c, t.channel c =
            if (s.patchEntry c).mapped = true ∧ (s.patchEntry c).ownership ≠ .show then
              { ChannelState.initial with
                output := min (s.channel c).output (s.patchEntry c).ceiling
                emitted := min (s.channel c).emitted (s.patchEntry c).ceiling }
            else ChannelState.initial)
    (s.store.writing.isSome = true →
        exec (.restart tag) s = .next (reply tag .busy [] s.received) ∧ exec (.restore tag) s = .next (reply tag .busy [] s.received))
      ∧ (s.store.writing = none → s.store.loading = none →
          ∃ t : State, exec (.restart tag) s = .next t ∧ emptied t .ok ∧ t.freshlyHeld)
      ∧ (s.store.writing = none → s.mode ≠ .hold → exec (.restore tag) s = .next (reply tag .wrongMode [] s.received))
      ∧ (s.store.writing = none → s.mode = .hold → s.store.image.mark = false ∨ s.store.image.crcMatches = false →
          exec (.restore tag) s = .next (reply tag .notAvailable [] s.received))
      ∧ (s.store.writing = none → s.mode = .hold → s.store.image.mark = true → s.store.image.crcMatches = true →
          ∃ t : State, exec (.restore tag) s = .next t ∧ emptied t .accepted ∧ t.mode = .starting ∧ t.store.loading = some .restore
            ∧ t.motion.updateTimer = none ∧ t.loop.intervalTimer = none ∧ t.loop.watchdog = none ∧ t.clock.tickTimer = none
            ∧ t.lamps.refreshTimer = none ∧ t.rotors.updateTimer = none)

/-- R174 with the chapters' values after power-on: of the part's own state power applied keeps nothing but the stored image, which a store
operation under way leaves with its mark erased (R175, log entry 30). The part is STARTING with the start-up load under way, nothing in
transmission, no timer running, no train or rotor under power and every queue of the part empty. (The model's choices: the tables in force
during STARTING, log entry 9; the clock's value until the load ends, log entry 8; the time base at 0, log entry 5; and that the queue of
commands that wait outside the part is kept, log entry 10.) R174, R176: the end of the start-up load brings into force the image's tables
where the mark is present and the CRC matches, and the defaults otherwise, then with STORE_INVALID, detail MARK or CRC; the clock starts at
the configured time on day 0. The end of RESTORE's load brings the image's tables into force and keeps the time, the day and the lamp
outputs within their ceilings. Both end in HOLD with every block fresh and its timers started. -/
def Obligations.PowerOnAndLoadsSetEveryValue : Prop :=
  (∀ s : State, ∃ t : State, exec .powerOn s = .next t
     ∧ t.store = { image := s.store.image, writing := none, loading := some .startUp } ∧ t.pending = s.pending
     ∧ t = { State.reset with store := t.store, pending := t.pending }
     ∧ t.mode = .starting ∧ t.mgmt.intake = [] ∧ t.counters = Counters.zero ∧ t.report.flags = 0 ∧ t.report.overflow = false
     ∧ t.link.upstream = [] ∧ t.link.transmitting = none
     ∧ t.field.urgent = [] ∧ t.field.engine = [] ∧ t.field.pass = [] ∧ t.field.transmitting = none ∧ t.field.missing = 0
     ∧ t.field.servedLast = .pass
     ∧ t.loop.state = .down ∧ t.loop.echoNumber = 0 ∧ t.loop.echoOutstanding = false ∧ t.loop.goodCount = 0 ∧ t.loop.errorCount = 0
     ∧ t.loop.downCause = none ∧ t.loop.intervalTimer = none ∧ t.loop.watchdog = none
     ∧ (∀ e, t.sensor e = { raw := false, filtered := false, fresh := false, timer := none })
     ∧ (∀ b, t.block b = { holding := none, detection := .unknown, intruded := false, crossing := .idle, warnTimer := none })
     ∧ (∀ u, t.turnout u =
         { condition := .free, position := none, commanded := none, lock := none, throwTimer := none, indication := .unknown })
     ∧ (∀ x, t.path x = { occupied := [], reserved := [], authorised := 0 } ∧ (t.train x).step = 0 ∧ (t.train x).condition = .absent)
     ∧ t.interlock.queue = [] ∧ t.motion.updateTimer = none ∧ t.clock.tickTimer = none ∧ t.clock.ambientTimer = none
     ∧ (∀ c, t.channel c =
         { lit := false, staggerTimer := none, override := none, overrideTimer := none, showValue := 0
           target := 0, output := 0, emitted := 0, offered := none })
     ∧ t.lamps.flashCount = 0 ∧ t.lamps.restatementCount = 0 ∧ t.lamps.refreshTimer = none
     ∧ (∀ r, (t.rotor r).condition = .unhomed ∧ (t.rotor r).step = 0 ∧ (t.rotor r).revolutions = 0) ∧ t.rotors.updateTimer = none
     ∧ (∀ k, (t.cue k).fireCount = 0 ∧ (t.cue k).stamp = none ∧ (t.cue k).windowTimer = none ∧ (t.cue k).holdOffTimer = none)
     ∧ t.cues.pendingEvents = [])
    ∧ (∀ s : State,
         (s.store.loading = some .startUp → ∃ t : State, exec .startUpLoadComplete s = .next t ∧ t.freshlyHeld
             ∧ t.tables = (if s.store.image.mark = true ∧ s.store.image.crcMatches = true then s.store.image.tables else defaultTables)
             ∧ t.clock.virtualTime = t.tables.clock.startTime * 1000 ∧ t.clock.day = 0
             ∧ (if s.store.image.mark = true ∧ s.store.image.crcMatches = true then t.report = s.report ∧ t.link = s.link
               else
                 let r := raise .storeInvalid 0xFFFF (if s.store.image.mark then 1 else 0)
                   { s with tables := defaultTables, clock := t.clock }
                 t.report = r.report ∧ t.link = r.link ∧ t.report.flags.getLsbD EventKind.storeInvalid.code = true)
             ∧ t.store = { s.store with loading := none } ∧ t.lamps = { s.lamps with refreshTimer := some 40 }
             ∧ OnlyChanges [.trainTable, .otherTables, .loop, .entries, .views, .indications, .blocks, .turnouts, .paths, .queue, .serviceDue,
                 .motionTimer, .trains, .clock, .lampCycle, .rotorTimer, .rotors, .cues, .events, .link, .sOut, .mode, .report, .store] s t)
           ∧ (s.store.loading = some .restore → ∃ t : State, exec .restoreLoadComplete s = .next t ∧ t.freshlyHeld
               ∧ t.tables = s.store.image.tables ∧ t.clock.virtualTime = s.clock.virtualTime ∧ t.clock.day = s.clock.day
               ∧ t.store = { s.store with loading := none } ∧ t.lamps.flashCount = 0 ∧ t.lamps.restatementCount = 0
               ∧ (∀ c, t.channel c =
                   if (t.patchEntry c).mapped = true ∧ (t.patchEntry c).ownership ≠ .show then
                     { ChannelState.initial with
                       output := min (s.channel c).output (t.patchEntry c).ceiling
                       emitted := min (s.channel c).emitted (t.patchEntry c).ceiling }
                   else ChannelState.initial)
               ∧ OnlyChanges [.trainTable, .otherTables, .loop, .entries, .views, .indications, .blocks, .turnouts, .paths, .queue, .serviceDue,
                   .motionTimer, .trains, .clock, .channels, .lampCycle, .rotorTimer, .rotors, .cues, .events, .mode, .store] s t))
end

