-- ==== Sys2Proof/Laws/Frames.lean ====
section
/-!
SUPPORT. What each shared operation can change: for an operation `op`, `op_get` says that every piece of the state outside a list is as it was.
-/

set_option linter.unusedTactic false
set_option linter.unreachableTactic false
set_option linter.unnecessarySeqFocus false
set_option linter.flexible false

namespace Sys2Proof.Machine

variable {s : State} {part : Part}

/-! ## Composition -/

@[simp] theorem ite_get {c : Prop} [Decidable c] (a b : State) : (if c then a else b).get part = if c then a.get part else b.get part := by
  split <;> rfl

@[simp] theorem foldl_get {α : Type} {f : State → α → State} (l : List α) (h : ∀ s a, (f s a).get part = s.get part) :
    (l.foldl f s).get part = s.get part := by
  induction l generalizing s with
  | nil => rfl
  | cons a l ih => rw [List.foldl_cons, ih, h]

@[simp] theorem forAll_get {n : Nat} {f : Fin n → State → State} (h : ∀ i s, (f i s).get part = s.get part) : (forAll f s).get part = s.get part :=
  foldl_get _ fun s i => h i s

@[simp] theorem onSubject_get {α : Type} {f : α → State → State} (x : Option α) (h : ∀ a s, (f a s).get part = s.get part) :
    (onSubject x f s).get part = s.get part := by
  cases x <;> simp [onSubject, h]

/-! ## Updates of one piece -/

@[simp] theorem grant_missing (f : FieldPort) : f.grant.missing = f.missing := by
  simp only [FieldPort.grant]; (repeat' split) <;> rfl

@[simp] theorem withField_get (v : FieldPort) (hv : v.missing = s.field.missing) (h : part ∉ [Part.output]) :
    ({ s with field := v } : State).get part = s.get part := by
  cases part <;> first | rfl | exact hv | simp at h

@[simp] theorem withLamps_get (v : LampEngine) (hv : v.channels = s.lamps.channels) (h : part ∉ [Part.lampCycle]) :
    ({ s with lamps := v } : State).get part = s.get part := by
  cases part <;> first | rfl | exact hv | simp at h

@[simp] theorem withServiceDue_get (v : Bool) (h : part ∉ [Part.serviceDue]) : ({ s with interlock := { s.interlock with serviceDue := v } } : State).get part = s.get part := by
  cases part <;> first | rfl | simp at h

@[simp] theorem withQueue_get (v : List RouteRequest) (h : part ∉ [Part.queue]) : ({ s with interlock := { s.interlock with queue := v } } : State).get part = s.get part := by
  cases part <;> first | rfl | simp at h

@[simp] theorem withMode_get (v : PartMode) (h : part ∉ [Part.mode]) : ({ s with mgmt := { s.mgmt with mode := v } } : State).get part = s.get part := by
  cases part <;> first | rfl | simp at h

@[simp] theorem withEvents_get (v : List CueEvent) (h : part ∉ [Part.events]) : ({ s with cues := { s.cues with pendingEvents := v } } : State).get part = s.get part := by
  cases part <;> first | rfl | simp at h

@[simp] theorem withLink_get (v : ShowLink) (h : part ∉ [Part.link]) : ({ s with link := v } : State).get part = s.get part := by
  cases part <;> first | rfl | simp at h

@[simp] theorem withReport_get (v : ReportUnit) (h : part ∉ [Part.report]) : ({ s with report := v } : State).get part = s.get part := by
  cases part <;> first | rfl | simp at h

@[simp] theorem withNow_get (v : Nat) (h : part ∉ [Part.now]) : ({ s with now := v } : State).get part = s.get part := by
  cases part <;> first | rfl | simp at h

/-! ## Ops -/

@[simp] theorem updBlock_get (b : BlockId) (f : BlockState → BlockState) (h : part ∉ [Part.blocks]) : (s.updBlock b f).get part = s.get part := by
  cases part <;> first | rfl | simp at h
@[simp] theorem updTurnout_get (u : TurnoutId) (f : TurnoutState → TurnoutState) (h : part ∉ [Part.turnouts]) : (s.updTurnout u f).get part = s.get part := by
  cases part <;> first | rfl | simp at h
@[simp] theorem updPath_get (t : TrainId) (f : TrainPath → TrainPath) (h : part ∉ [Part.paths]) : (s.updPath t f).get part = s.get part := by
  cases part <;> first | rfl | simp at h
@[simp] theorem updTrain_get (t : TrainId) (f : TrainRecord → TrainRecord) (h : part ∉ [Part.trains]) : (s.updTrain t f).get part = s.get part := by
  cases part <;> first | rfl | simp at h
@[simp] theorem updChannel_get (c : ChannelId) (f : ChannelState → ChannelState) (h : part ∉ [Part.channels]) : (s.updChannel c f).get part = s.get part := by
  cases part <;> first | rfl | simp at h
@[simp] theorem updRotor_get (r : RotorId) (f : RotorRecord → RotorRecord) (h : part ∉ [Part.rotors]) : (s.updRotor r f).get part = s.get part := by
  cases part <;> first | rfl | simp at h
@[simp] theorem updCue_get (k : CueId) (f : CueProgress → CueProgress) (h : part ∉ [Part.cues]) : (s.updCue k f).get part = s.get part := by
  cases part <;> first | rfl | simp at h
@[simp] theorem updSensor_get (e : EntryId) (f : SensorState → SensorState) (h : part ∉ [Part.entries]) : (s.updSensor e f).get part = s.get part := by
  cases part <;> first | rfl | simp at h
@[simp] theorem updTrainEntry_get (t : TrainId) (f : TrainEntry → TrainEntry) (h : part ∉ [Part.trainTable]) : (s.updTrainEntry t f).get part = s.get part := by
  cases part <;> first | rfl | simp at h
@[simp] theorem countFIn_get (f : PortTotals → PortTotals) (h : part ∉ [Part.fIn]) : (s.countFIn f).get part = s.get part := by
  cases part <;> first | rfl | simp at h
@[simp] theorem countSIn_get (f : PortTotals → PortTotals) (h : part ∉ [Part.sIn]) : (s.countSIn f).get part = s.get part := by
  cases part <;> first | rfl | simp at h
@[simp] theorem dropFIn_get (r : FInDrop) (h : part ∉ [Part.fIn, .fInDrops]) : (s.dropFIn r).get part = s.get part := by
  cases part <;> first | rfl | simp at h
@[simp] theorem dropSIn_get (r : SInDrop) (h : part ∉ [Part.sIn, .sInDrops]) : (s.dropSIn r).get part = s.get part := by
  cases part <;> first | rfl | simp at h
@[simp] theorem countFOut_get (f : FOutCounters → FOutCounters) (h : part ∉ [Part.fOut]) : (s.countFOut f).get part = s.get part := by
  cases part <;> first | rfl | simp at h
@[simp] theorem countSOut_get (f : SOutCounters → SOutCounters) (h : part ∉ [Part.sOut]) : (s.countSOut f).get part = s.get part := by
  cases part <;> first | rfl | simp at h
@[simp] theorem countBlock_get (f : BlockCounters → BlockCounters) (h : part ∉ [Part.blockCounters]) : (s.countBlock f).get part = s.get part := by
  cases part <;> first | rfl | simp at h
@[simp] theorem countPurged_get (n : Nat) (h : part ∉ [Part.fOut]) : (s.countPurged n).get part = s.get part := by
  simp at h
  simp only [State.countPurged]
  (repeat' split) <;> simp [h]
@[simp] theorem purgeEngine_get (test : EngineKey → Bool) (h : part ∉ [Part.output, .fOut]) : (s.purgeEngine test).get part = s.get part := by
  cases part <;> first | rfl | simp at h
@[simp] theorem purgePass_get (test : Frame → Bool) (h : part ∉ [Part.output, .fOut]) : (s.purgePass test).get part = s.get part := by
  cases part <;> first | rfl | simp at h
@[simp] theorem purgeFor_get (k : UrgentKey) (h : part ∉ [Part.output, .fOut]) : (purgeFor k s).get part = s.get part := by
  simp at h
  simp only [purgeFor]
  (repeat' split) <;> simp [h]
@[simp] theorem offerUrgent_get (k : UrgentKey) (f : Frame) (h : part ∉ [Part.output, .fOut]) : (offerUrgent k f s).get part = s.get part := by
  simp at h
  simp only [offerUrgent]
  (repeat' split) <;> simp [h]
@[simp] theorem offerEngine_get (k : EngineKey) (f : Frame) (h : part ∉ [Part.output]) : (offerEngine k f s).get part = s.get part := by
  simp at h
  simp only [offerEngine]
  (repeat' split) <;> simp [h]
@[simp] theorem placeUpstream_get (f : Frame) (h : part ∉ [Part.link]) : (placeUpstream f s).get part = s.get part := by
  cases part <;> first | rfl | simp at h
@[simp] theorem reply_get (tag : Byte) (status : Status) (result : List Byte) (h : part ∉ [Part.link]) : (reply tag status result s).get part = s.get part := by
  simp at h
  simp only [reply]
  (repeat' split) <;> simp [h]
@[simp] theorem raise_get (k : EventKind) (subject detail : Nat) (h : part ∉ [Part.sOut, .link, .report]) : (raise k subject detail s).get part = s.get part := by
  simp at h
  simp only [raise]
  (repeat' split) <;> simp [h]
@[simp] theorem deliverCue_get (e : CueEvent) (h : part ∉ [Part.blockCounters, .events]) : (deliverCue e s).get part = s.get part := by
  simp at h
  simp only [deliverCue]
  (repeat' split) <;> simp [h]

/-! ## Authority -/

@[simp] theorem recomputeP_get (t : TrainId) (h : part ∉ [Part.trains]) : (recomputeP t s).get part = s.get part := by
  simp at h
  simp only [recomputeP]
  (repeat' split) <;> simp [h]
@[simp] theorem recomputeAllP_get (h : part ∉ [Part.trains]) : (recomputeAllP s).get part = s.get part := by
  simp at h
  simp only [recomputeAllP]
  (repeat' split) <;> simp [h]
@[simp] theorem recount_get (t : TrainId) (h : part ∉ [Part.paths, .trains]) : (recount t s).get part = s.get part := by
  simp at h
  simp only [recount]
  (repeat' split) <;> simp [h]

/-! ## Interlocking -/

@[simp] theorem startThrow_get (u : TurnoutId) (p : Position) (h : part ∉ [Part.turnouts]) : (startThrow u p s).get part = s.get part := by
  simp at h
  simp only [startThrow]
  (repeat' split) <;> simp [h]
@[simp] theorem throwTurnout_get (u : TurnoutId) (p : Position) (h : part ∉ [Part.output, .turnouts]) : (throwTurnout u p s).get part = s.get part := by
  simp at h
  simp only [throwTurnout]
  (repeat' split) <;> simp [h]
@[simp] theorem lockTurnout_get (u : TurnoutId) (t : TrainId) (h : part ∉ [Part.output, .fOut, .turnouts]) : (lockTurnout u t s).get part = s.get part := by
  simp at h
  simp only [lockTurnout]
  (repeat' split) <;> simp [h]
@[simp] theorem unlockTurnout_get (u : TurnoutId) (h : part ∉ [Part.turnouts, .serviceDue]) : (unlockTurnout u s).get part = s.get part := by
  simp at h
  simp only [unlockTurnout]
  (repeat' split) <;> simp [h]
@[simp] theorem recountHolderOfTurnout_get (u : TurnoutId) (h : part ∉ [Part.paths, .trains]) : (recountHolderOfTurnout u s).get part = s.get part := by
  simp at h
  simp only [recountHolderOfTurnout]
  (repeat' split) <;> simp [h]
@[simp] theorem faultTurnout_get (u : TurnoutId) (d : TurnoutFaultDetail) (h : part ∉ [Part.sOut, .turnouts, .paths, .trains, .link, .report]) : (faultTurnout u d s).get part = s.get part := by
  simp at h
  simp only [faultTurnout]
  (repeat' split) <;> simp [h]
@[simp] theorem completeThrow_get (u : TurnoutId) (h : part ∉ [Part.turnouts, .paths, .trains]) : (completeThrow u s).get part = s.get part := by
  simp at h
  simp only [completeThrow]
  (repeat' split) <;> simp [h]
@[simp] theorem dropBlock_get (t : TrainId) (b : BlockId) (h : part ∉ [Part.blocks, .turnouts, .paths, .serviceDue]) : (dropBlock t b s).get part = s.get part := by
  simp at h
  simp only [dropBlock]
  (repeat' split) <;> simp [h]
@[simp] theorem releaseBlocks_get (t : TrainId) (bs : List BlockId) (h : part ∉ [Part.blocks, .turnouts, .paths, .serviceDue, .trains]) : (releaseBlocks t bs s).get part = s.get part := by
  simp at h
  simp only [releaseBlocks]
  (repeat' split) <;> simp [h]
@[simp] theorem markService_get (h : part ∉ [Part.serviceDue]) : (markService s).get part = s.get part := by
  cases part <;> first | rfl | simp at h
@[simp] theorem activateCrossing_get (b : BlockId) (h : part ∉ [Part.blocks]) : (activateCrossing b s).get part = s.get part := by
  simp at h
  simp only [activateCrossing]
  (repeat' split) <;> simp [h]
@[simp] theorem dequeue_get (t : TrainId) (h : part ∉ [Part.queue]) : (dequeue t s).get part = s.get part := by
  cases part <;> first | rfl | simp at h
@[simp] theorem removeRequest_get (t : TrainId) (c : RefusalCause) (h : part ∉ [Part.sOut, .queue, .link, .report]) : (removeRequest t c s).get part = s.get part := by
  simp at h
  simp only [removeRequest]
  (repeat' split) <;> simp [h]
@[simp] theorem takeTurnout_get (t : TrainId) (p : TurnoutId × Position) (h : part ∉ [Part.output, .fOut, .turnouts]) : (takeTurnout t p s).get part = s.get part := by
  simp at h
  simp only [takeTurnout]
  (repeat' split) <;> simp [h]
@[simp] theorem warnCrossing_get (b : BlockId) (h : part ∉ [Part.blocks]) : (warnCrossing b s).get part = s.get part := by
  simp at h
  simp only [warnCrossing]
  (repeat' split) <;> simp [h]
@[simp] theorem reserveBlocks_get (t : TrainId) (bs : List BlockId) (h : part ∉ [Part.blocks, .paths]) : (reserveBlocks t bs s).get part = s.get part := by
  simp at h
  simp only [reserveBlocks]
  (repeat' split) <;> simp [h]
@[simp] theorem grantRoute_get (q : RouteRequest) (h : part ∉ [Part.output, .fOut, .sOut, .blockCounters, .blocks, .turnouts, .paths, .queue, .trains, .events, .link, .report]) : (grantRoute q s).get part = s.get part := by
  simp at h
  simp only [grantRoute]
  (repeat' split) <;> simp [h]
@[simp] theorem serveRequests_get (qs : List RouteRequest) (h : part ∉ [Part.output, .fOut, .sOut, .blockCounters, .blocks, .turnouts, .paths, .queue, .trains, .events, .link, .report]) : (serveRequests qs s).get part = s.get part := by
  simp at h
  simp only [serveRequests]
  (repeat' split) <;> simp [h]
@[simp] theorem serveIfDue_get (h : part ∉ [Part.output, .fOut, .sOut, .blockCounters, .blocks, .turnouts, .paths, .queue, .serviceDue, .trains, .events, .link, .report]) : (serveIfDue s).get part = s.get part := by
  simp at h
  simp only [serveIfDue]
  (repeat' split) <;> simp [h]
@[simp] theorem dispatchRequest_get (t : TrainId) (r : RouteId) (wait : Nat) (source : RequestSource) (h : part ∉ [Part.queue, .serviceDue]) : (dispatchRequest t r wait source s).2.get part = s.get part := by
  simp at h
  simp only [dispatchRequest]
  (repeat' split) <;> simp [h]
@[simp] theorem cancelRequest_get (t : TrainId) (h : part ∉ [Part.sOut, .queue, .link, .report]) : (cancelRequest t s).2.get part = s.get part := by
  simp at h
  simp only [cancelRequest]
  (repeat' split) <;> simp [h]

/-! ## Rotors -/

@[simp] theorem offerRotor_get (r : RotorId) (h : part ∉ [Part.output, .rotors]) : (offerRotor r s).get part = s.get part := by
  simp at h
  simp only [offerRotor]
  (repeat' split) <;> simp [h]
@[simp] theorem haltRotor_get (r : RotorId) (c : RotorCause) (h : part ∉ [Part.output, .sOut, .rotors, .link, .report]) : (haltRotor r c s).get part = s.get part := by
  simp at h
  simp only [haltRotor]
  (repeat' split) <;> simp [h]
@[simp] theorem startRotor_get (r : RotorId) (step : Nat) (h : part ∉ [Part.rotors]) : (startRotor r step s).2.get part = s.get part := by
  simp at h
  simp only [startRotor]
  (repeat' split) <;> simp [h]
@[simp] theorem stopRotor_get (r : RotorId) (h : part ∉ [Part.rotors]) : (stopRotor r s).2.get part = s.get part := by
  simp at h
  simp only [stopRotor]
  (repeat' split) <;> simp [h]
@[simp] theorem rotorsLeaveRun_get (h : part ∉ [Part.rotors]) : (rotorsLeaveRun s).get part = s.get part := by
  simp at h
  simp only [rotorsLeaveRun]
  (repeat' split) <;> simp [h]
@[simp] theorem requestRotorHalt_get (r : RotorId) (h : part ∉ [Part.output, .sOut, .rotors, .link, .report]) : (requestRotorHalt r s).2.get part = s.get part := by
  simp at h
  simp only [requestRotorHalt]
  (repeat' split) <;> simp [h]
@[simp] theorem clearRotorRecord_get (r : RotorId) (h : part ∉ [Part.rotors]) : (clearRotorRecord r s).2.get part = s.get part := by
  simp at h
  simp only [clearRotorRecord]
  (repeat' split) <;> simp [h]
@[simp] theorem updateRotor_get (r : RotorId) (h : part ∉ [Part.output, .sOut, .rotors, .link, .report]) : (updateRotor r s).get part = s.get part := by
  simp at h
  simp only [updateRotor]
  (repeat' split) <;> simp [h]
@[simp] theorem indexEdge_get (r : RotorId) (entry : EntryId) (h : part ∉ [Part.output, .sOut, .blockCounters, .rotors, .events, .link, .report]) : (indexEdge r entry s).get part = s.get part := by
  simp at h
  simp only [indexEdge]
  (repeat' split) <;> simp [h]

/-! ## Halts -/

@[simp] theorem offerDrive_get (t : TrainId) (h : part ∉ [Part.output, .trains]) : (offerDrive t s).get part = s.get part := by
  simp at h
  simp only [offerDrive]
  (repeat' split) <;> simp [h]
@[simp] theorem offerEmergency_get (t : TrainId) (h : part ∉ [Part.output, .fOut, .trains]) : (offerEmergency t s).get part = s.get part := by
  simp at h
  simp only [offerEmergency]
  (repeat' split) <;> simp [h]
@[simp] theorem releaseReserved_get (t : TrainId) (h : part ∉ [Part.sOut, .blocks, .turnouts, .paths, .queue, .serviceDue, .trains, .link, .report]) : (releaseReserved t s).get part = s.get part := by
  simp at h
  simp only [releaseReserved]
  (repeat' split) <;> simp [h]
@[simp] theorem haltTrain_get (t : TrainId) (c : HaltCause) (h : part ∉ [Part.output, .fOut, .sOut, .blocks, .turnouts, .paths, .queue, .serviceDue, .trains, .link, .report]) : (haltTrain t c s).get part = s.get part := by
  simp at h
  simp only [haltTrain]
  (repeat' split) <;> simp [h]
@[simp] theorem loseTrain_get (t : TrainId) (d : LostDetail) (h : part ∉ [Part.output, .fOut, .sOut, .blocks, .turnouts, .paths, .queue, .serviceDue, .trains, .link, .report]) : (loseTrain t d s).get part = s.get part := by
  simp at h
  simp only [loseTrain]
  (repeat' split) <;> simp [h]
@[simp] theorem releaseHalt_get (t : TrainId) (h : part ∉ [Part.trains]) : (releaseHalt t s).get part = s.get part := by
  simp at h
  simp only [releaseHalt]
  (repeat' split) <;> simp [h]
@[simp] theorem placeTrain_get (t : TrainId) (h : part ∉ [Part.trains]) : (placeTrain t s).get part = s.get part := by
  simp at h
  simp only [placeTrain]
  (repeat' split) <;> simp [h]
@[simp] theorem finishCalibration_get (t : TrainId) (c : Calibration) (entry : Nat) (h : part ∉ [Part.trainTable, .sOut, .trains, .link, .report]) : (finishCalibration t c entry s).get part = s.get part := by
  simp at h
  simp only [finishCalibration]
  (repeat' split) <;> simp [h]
@[simp] theorem calibrationAdvance_get (t : TrainId) (b : BlockId) (h : part ∉ [Part.trainTable, .sOut, .trains, .link, .report]) : (calibrationAdvance t b s).get part = s.get part := by
  simp at h
  simp only [calibrationAdvance]
  (repeat' split) <;> simp [h]
@[simp] theorem judgeEarlyEntry_get (t : TrainId) (b : BlockId) (oldLength : Nat) (h : part ∉ [Part.sOut, .link, .report]) : (judgeEarlyEntry t b oldLength s).get part = s.get part := by
  simp at h
  simp only [judgeEarlyEntry]
  (repeat' split) <;> simp [h]
@[simp] theorem headAdvance_get (t : TrainId) (b : BlockId) (oldLength : Nat) (h : part ∉ [Part.trainTable, .sOut, .trains, .link, .report]) : (headAdvance t b oldLength s).get part = s.get part := by
  simp at h
  simp only [headAdvance]
  (repeat' split) <;> simp [h]
@[simp] theorem setPartMode_get (m : PartMode) (h : part ∉ [Part.serviceDue, .trains, .rotors, .mode]) : (setPartMode m s).get part = s.get part := by
  simp at h
  simp only [setPartMode]
  (repeat' split) <;> simp [h]
@[simp] theorem reportHold_get (h : part ∉ [Part.sOut, .serviceDue, .trains, .rotors, .link, .mode, .report]) : (reportHold s).get part = s.get part := by
  simp at h
  simp only [reportHold]
  (repeat' split) <;> simp [h]
@[simp] theorem settle_get (h : part ∉ [Part.output, .fOut, .sOut, .blockCounters, .blocks, .turnouts, .paths, .queue, .serviceDue, .trains, .rotors, .events, .link, .mode, .report]) : (settle s).get part = s.get part := by
  simp at h
  simp only [settle]
  (repeat' split) <;> simp [h]
@[simp] theorem beginHolding_get (h : part ∉ [Part.output, .fOut, .sOut, .blockCounters, .blocks, .turnouts, .paths, .queue, .serviceDue, .trains, .rotors, .events, .link, .mode, .report]) : (beginHolding s).get part = s.get part := by
  simp at h
  simp only [beginHolding]
  (repeat' split) <;> simp [h]

/-! ## Notices -/

@[simp] theorem enterBlock_get (t : TrainId) (b : BlockId) (h : part ∉ [Part.blocks, .paths, .serviceDue]) : (enterBlock t b s).get part = s.get part := by
  simp at h
  simp only [enterBlock]
  (repeat' split) <;> simp [h]
@[simp] theorem advanceInto_get (t : TrainId) (b : BlockId) (h : part ∉ [Part.trainTable, .output, .fOut, .sOut, .blocks, .turnouts, .paths, .queue, .serviceDue, .trains, .link, .report]) : (advanceInto t b s).get part = s.get part := by
  simp at h
  simp only [advanceInto]
  (repeat' split) <;> simp [h]
@[simp] theorem intrude_get (t : TrainId) (b : BlockId) (h : part ∉ [Part.output, .fOut, .sOut, .blocks, .turnouts, .paths, .queue, .serviceDue, .trains, .link, .report]) : (intrude t b s).get part = s.get part := by
  simp at h
  simp only [intrude]
  (repeat' split) <;> simp [h]
@[simp] theorem blockEntered_get (b : BlockId) (h : part ∉ [Part.trainTable, .output, .fOut, .sOut, .blocks, .turnouts, .paths, .queue, .serviceDue, .trains, .link, .report]) : (blockEntered b s).get part = s.get part := by
  simp at h
  simp only [blockEntered]
  (repeat' split) <;> simp [h]
@[simp] theorem soleBlockCleared_get (t : TrainId) (h : part ∉ [Part.output, .fOut, .sOut, .blocks, .turnouts, .paths, .queue, .serviceDue, .trains, .link, .report]) : (soleBlockCleared t s).get part = s.get part := by
  simp at h
  simp only [soleBlockCleared]
  (repeat' split) <;> simp [h]
@[simp] theorem blockCleared_get (b : BlockId) (h : part ∉ [Part.output, .fOut, .sOut, .blocks, .turnouts, .paths, .queue, .serviceDue, .trains, .link, .report]) : (blockCleared b s).get part = s.get part := by
  simp at h
  simp only [blockCleared]
  (repeat' split) <;> simp [h]
@[simp] theorem blockRestated_get (b : BlockId) (new : Detection) (h : part ∉ [Part.trainTable, .output, .fOut, .sOut, .blocks, .turnouts, .paths, .queue, .serviceDue, .trains, .link, .report]) : (blockRestated b new s).get part = s.get part := by
  simp at h
  simp only [blockRestated]
  (repeat' split) <;> simp [h]
@[simp] theorem interlockingNotice_get (b : BlockId) (new : Detection) (k : NoticeKind) (h : part ∉ [Part.trainTable, .output, .fOut, .sOut, .blocks, .turnouts, .paths, .queue, .serviceDue, .trains, .link, .report]) : (interlockingNotice b new k s).get part = s.get part := by
  simp at h
  simp only [interlockingNotice]
  (repeat' split) <;> simp [h]
@[simp] theorem reevaluate_get (b : BlockId) (t : TrainId) (h : part ∉ [Part.output, .fOut, .sOut, .blocks, .turnouts, .paths, .queue, .serviceDue, .trains, .link, .report]) : (reevaluate b t s).get part = s.get part := by
  simp at h
  simp only [reevaluate]
  (repeat' split) <;> simp [h]
@[simp] theorem occupyAlone_get (t : TrainId) (b : BlockId) (h : part ∉ [Part.blocks, .paths]) : (occupyAlone t b s).get part = s.get part := by
  simp at h
  simp only [occupyAlone]
  (repeat' split) <;> simp [h]
@[simp] theorem autoLocate_get (t : TrainId) (h : part ∉ [Part.blocks, .paths, .trains]) : (autoLocate t s).get part = s.get part := by
  simp at h
  simp only [autoLocate]
  (repeat' split) <;> simp [h]
@[simp] theorem motionNotice_get (b : BlockId) (h : part ∉ [Part.output, .fOut, .sOut, .blocks, .turnouts, .paths, .queue, .serviceDue, .trains, .link, .report]) : (motionNotice b s).get part = s.get part := by
  simp at h
  simp only [motionNotice]
  (repeat' split) <;> simp [h]
@[simp] theorem deliverBlockNotice_get (b : BlockId) (new : Detection) (k : NoticeKind) (h : part ∉ [Part.trainTable, .output, .fOut, .sOut, .blockCounters, .blocks, .turnouts, .paths, .queue, .serviceDue, .trains, .rotors, .events, .link, .mode, .report]) : (deliverBlockNotice b new k s).get part = s.get part := by
  simp at h
  simp only [deliverBlockNotice]
  (repeat' split) <;> simp [h]
@[simp] theorem turnoutNotice_get (u : TurnoutId) (new : Indication) (h : part ∉ [Part.sOut, .turnouts, .paths, .trains, .link, .report]) : (turnoutNotice u new s).get part = s.get part := by
  simp at h
  simp only [turnoutNotice]
  (repeat' split) <;> simp [h]

/-! ## SensorInputs -/

@[simp] theorem notifyBlock_get (b : BlockId) (old : BlockView) (c : DeriveCause) (h : part ∉ [Part.trainTable, .output, .fOut, .sOut, .blockCounters, .blocks, .turnouts, .paths, .queue, .serviceDue, .trains, .rotors, .events, .link, .mode, .report]) : (notifyBlock b old c s).get part = s.get part := by
  simp at h
  simp only [notifyBlock]
  (repeat' split) <;> simp [h]
@[simp] theorem notifyTurnout_get (u : TurnoutId) (old : Indication) (h : part ∉ [Part.sOut, .turnouts, .paths, .trains, .link, .report]) : (notifyTurnout u old s).get part = s.get part := by
  simp at h
  simp only [notifyTurnout]
  (repeat' split) <;> simp [h]
@[simp] theorem putEntries_get (us : EntryUpdates) (h : part ∉ [Part.entries]) : (putEntries us s).get part = s.get part := by
  simp at h
  simp only [putEntries]
  (repeat' split) <;> simp [h]
@[simp] theorem rederiveBlock_get (b : BlockId) (h : part ∉ [Part.views]) : (rederiveBlock b s).get part = s.get part := by
  cases part <;> first | rfl | simp at h
@[simp] theorem rederiveTurnout_get (u : TurnoutId) (h : part ∉ [Part.indications]) : (rederiveTurnout u s).get part = s.get part := by
  cases part <;> first | rfl | simp at h
@[simp] theorem rederiveFor_get (f : SensorFunction) (h : part ∉ [Part.views, .indications]) : (rederiveFor f s).get part = s.get part := by
  simp at h
  simp only [rederiveFor]
  (repeat' split) <;> simp [h]
@[simp] theorem deliverEntry_get (old : InputFilter) (us : EntryUpdates) (earlier : List EntryId) (p : EntryId × SensorState × EntryChange) (h : part ∉ [Part.trainTable, .output, .fOut, .sOut, .blockCounters, .blocks, .turnouts, .paths, .queue, .serviceDue, .trains, .rotors, .events, .link, .mode, .report]) : (deliverEntry old us earlier p s).get part = s.get part := by
  simp at h
  simp only [deliverEntry]
  (repeat' split) <;> simp [h]
@[simp] theorem deliverEntries_get (old : InputFilter) (us : EntryUpdates) (earlier : List EntryId) (rest : EntryUpdates) (h : part ∉ [Part.trainTable, .output, .fOut, .sOut, .blockCounters, .blocks, .turnouts, .paths, .queue, .serviceDue, .trains, .rotors, .events, .link, .mode, .report]) : (deliverEntries old us earlier rest s).get part = s.get part := by
  induction rest generalizing earlier s with
  | nil => rfl
  | cons q qs ih => rw [deliverEntries, ih, deliverEntry_get _ _ _ _ h]
@[simp] theorem applyUpdates_get (us : EntryUpdates) (h : part ∉ [Part.trainTable, .output, .fOut, .sOut, .blockCounters, .entries, .views, .indications, .blocks, .turnouts, .paths, .queue, .serviceDue, .trains, .rotors, .events, .link, .mode, .report]) : (applyUpdates us s).get part = s.get part := by
  simp at h
  simp only [applyUpdates]
  (repeat' split) <;> simp [h]
@[simp] theorem markAllStale_get (h : part ∉ [Part.trainTable, .output, .fOut, .sOut, .blockCounters, .entries, .views, .indications, .blocks, .turnouts, .paths, .queue, .serviceDue, .trains, .rotors, .events, .link, .mode, .report]) : (markAllStale s).get part = s.get part := by
  simp at h
  simp only [markAllStale]
  (repeat' split) <;> simp [h]
@[simp] theorem takeSense_get (node : Nat) (payload : List Byte) (h : part ∉ [Part.trainTable, .output, .fOut, .sOut, .blockCounters, .entries, .views, .indications, .blocks, .turnouts, .paths, .queue, .serviceDue, .trains, .rotors, .events, .link, .mode, .report]) : (takeSense node payload s).get part = s.get part := by
  simp at h
  simp only [takeSense]
  (repeat' split) <;> simp [h]
@[simp] theorem expireFilter_get (e : EntryId) (h : part ∉ [Part.trainTable, .output, .fOut, .sOut, .blockCounters, .entries, .views, .indications, .blocks, .turnouts, .paths, .queue, .serviceDue, .trains, .rotors, .events, .link, .mode, .report]) : (expireFilter e s).get part = s.get part := by
  simp at h
  simp only [expireFilter]
  (repeat' split) <;> simp [h]

/-! ## LoopRing -/

@[simp] theorem updLoop_get (f : LoopMonitor → LoopMonitor) (h : part ∉ [Part.loop]) : (s.updLoop f).get part = s.get part := by
  cases part <;> first | rfl | simp at h
@[simp] theorem restartWatchdog_get (h : part ∉ [Part.loop]) : (restartWatchdog s).get part = s.get part := by
  simp at h
  simp only [restartWatchdog]
  (repeat' split) <;> simp [h]
@[simp] theorem setLoopState_get (st : LoopState) (h : part ∉ [Part.loop, .trains]) : (setLoopState st s).get part = s.get part := by
  simp at h
  simp only [setLoopState]
  (repeat' split) <;> simp [h]
@[simp] theorem loopDown_get (c : DownCause) (h : part ∉ [Part.output, .loop, .fOut, .sOut, .blockCounters, .blocks, .turnouts, .paths, .queue, .serviceDue, .trains, .rotors, .events, .link, .mode, .report]) : (loopDown c s).get part = s.get part := by
  simp at h
  simp only [loopDown]
  (repeat' split) <;> simp [h]
@[simp] theorem loopUp_get (h : part ∉ [Part.trainTable, .output, .loop, .fOut, .sOut, .blockCounters, .entries, .views, .indications, .blocks, .turnouts, .paths, .queue, .serviceDue, .trains, .rotors, .events, .link, .mode, .report]) : (loopUp s).get part = s.get part := by
  simp at h
  simp only [loopUp]
  (repeat' split) <;> simp [h]
@[simp] theorem goodEcho_get (h : part ∉ [Part.trainTable, .output, .loop, .fOut, .sOut, .blockCounters, .entries, .views, .indications, .blocks, .turnouts, .paths, .queue, .serviceDue, .trains, .rotors, .events, .link, .mode, .report]) : (goodEcho s).get part = s.get part := by
  simp at h
  simp only [goodEcho]
  (repeat' split) <;> simp [h]
@[simp] theorem loopError_get (h : part ∉ [Part.output, .loop, .fOut, .sOut, .blockCounters, .blocks, .turnouts, .paths, .queue, .serviceDue, .trains, .rotors, .events, .link, .mode, .report]) : (loopError s).get part = s.get part := by
  simp at h
  simp only [loopError]
  (repeat' split) <;> simp [h]
@[simp] theorem watchdogExpires_get (h : part ∉ [Part.output, .loop, .fOut, .sOut, .blockCounters, .blocks, .turnouts, .paths, .queue, .serviceDue, .trains, .rotors, .events, .link, .mode, .report]) : (watchdogExpires s).get part = s.get part := by
  simp at h
  simp only [watchdogExpires]
  (repeat' split) <;> simp [h]
@[simp] theorem takeEcho_get (payload : List Byte) (h : part ∉ [Part.trainTable, .output, .loop, .fIn, .fInDrops, .fOut, .sOut, .blockCounters, .entries, .views, .indications, .blocks, .turnouts, .paths, .queue, .serviceDue, .trains, .rotors, .events, .link, .mode, .report]) : (takeEcho payload s).get part = s.get part := by
  simp at h
  simp only [takeEcho]
  (repeat' split) <;> simp [h]
@[simp] theorem sendEcho_get (h : part ∉ [Part.output, .loop, .fOut]) : (sendEcho s).get part = s.get part := by
  simp at h
  simp only [sendEcho]
  (repeat' split) <;> simp [h]
@[simp] theorem completeFOut_get (h : part ∉ [Part.output, .fOut]) : (completeFOut s).get part = s.get part := by
  simp at h
  simp only [completeFOut]
  (repeat' split) <;> simp [h]

/-! ## Motion -/

@[simp] theorem advancePosition_get (t : TrainId) (h : part ∉ [Part.trains]) : (advancePosition s t).get part = s.get part := by
  simp at h
  simp only [advancePosition]
  (repeat' split) <;> simp [h]
@[simp] theorem advanceStage_get (t : TrainId) (h : part ∉ [Part.output, .fOut, .sOut, .blocks, .turnouts, .paths, .queue, .serviceDue, .trains, .link, .report]) : (advanceStage t s).get part = s.get part := by
  simp at h
  simp only [advanceStage]
  (repeat' split) <;> simp [h]
@[simp] theorem newStepStage_get (t : TrainId) (h : part ∉ [Part.trains]) : (newStepStage t s).get part = s.get part := by
  simp at h
  simp only [newStepStage]
  (repeat' split) <;> simp [h]
@[simp] theorem arrivalStage_get (t : TrainId) (old : Nat) (h : part ∉ [Part.sOut, .blockCounters, .trains, .events, .link, .report]) : (arrivalStage t old s).get part = s.get part := by
  simp at h
  simp only [arrivalStage]
  (repeat' split) <;> simp [h]
@[simp] theorem updateAfterAdvance_get (t : TrainId) (old : Nat) (h : part ∉ [Part.output, .fOut, .sOut, .blockCounters, .blocks, .turnouts, .paths, .queue, .serviceDue, .trains, .events, .link, .report]) : (updateAfterAdvance t old s).get part = s.get part := by
  simp at h
  simp only [updateAfterAdvance]
  (repeat' split) <;> simp [h]
@[simp] theorem updateTrain_get (t : TrainId) (h : part ∉ [Part.output, .fOut, .sOut, .blockCounters, .blocks, .turnouts, .paths, .queue, .serviceDue, .trains, .rotors, .events, .link, .mode, .report]) : (updateTrain t s).get part = s.get part := by
  simp at h
  simp only [updateTrain]
  (repeat' split) <;> simp [h]
@[simp] theorem expireGuide_get (t : TrainId) (h : part ∉ [Part.sOut, .trains, .link, .report]) : (expireGuide t s).get part = s.get part := by
  simp at h
  simp only [expireGuide]
  (repeat' split) <;> simp [h]
@[simp] theorem expireThrow_get (u : TurnoutId) (h : part ∉ [Part.sOut, .turnouts, .paths, .trains, .link, .report]) : (expireThrow u s).get part = s.get part := by
  simp at h
  simp only [expireThrow]
  (repeat' split) <;> simp [h]
@[simp] theorem recountHolderOfBlock_get (b : BlockId) (h : part ∉ [Part.paths, .trains]) : (recountHolderOfBlock b s).get part = s.get part := by
  simp at h
  simp only [recountHolderOfBlock]
  (repeat' split) <;> simp [h]
@[simp] theorem expireWarn_get (b : BlockId) (h : part ∉ [Part.blocks, .paths, .trains]) : (expireWarn b s).get part = s.get part := by
  simp at h
  simp only [expireWarn]
  (repeat' split) <;> simp [h]
@[simp] theorem expireWait_get (t : TrainId) (q : RouteRequest) (h : part ∉ [Part.sOut, .blockCounters, .queue, .events, .link, .report]) : (expireWait t q s).get part = s.get part := by
  simp at h
  simp only [expireWait]
  (repeat' split) <;> simp [h]
@[simp] theorem retryTurnout_get (u : TurnoutId) (h : part ∉ [Part.output, .turnouts]) : (retryTurnout u s).2.get part = s.get part := by
  simp at h
  simp only [retryTurnout]
  (repeat' split) <;> simp [h]
@[simp] theorem locateTrain_get (t : TrainId) (bs : List BlockId) (h : part ∉ [Part.output, .fOut, .sOut, .blockCounters, .blocks, .turnouts, .paths, .queue, .serviceDue, .trains, .rotors, .events, .link, .mode, .report]) : (locateTrain t bs s).2.get part = s.get part := by
  simp at h
  simp only [locateTrain]
  (repeat' split) <;> simp [h]
@[simp] theorem removeTrain_get (t : TrainId) (h : part ∉ [Part.output, .fOut, .sOut, .blockCounters, .blocks, .turnouts, .paths, .queue, .serviceDue, .trains, .rotors, .events, .link, .mode, .report]) : (removeTrain t s).2.get part = s.get part := by
  simp at h
  simp only [removeTrain]
  (repeat' split) <;> simp [h]
@[simp] theorem clearHalt_get (t : TrainId) (h : part ∉ [Part.trains]) : (clearHalt t s).2.get part = s.get part := by
  simp at h
  simp only [clearHalt]
  (repeat' split) <;> simp [h]
@[simp] theorem reverseTrain_get (t : TrainId) (h : part ∉ [Part.trainTable, .sOut, .paths, .queue, .trains, .link, .report]) : (reverseTrain t s).2.get part = s.get part := by
  simp at h
  simp only [reverseTrain]
  (repeat' split) <;> simp [h]
@[simp] theorem setTrainMode_get (t : TrainId) (m : TrainMode) (h : part ∉ [Part.trainTable, .trains]) : (setTrainMode t m s).2.get part = s.get part := by
  simp at h
  simp only [setTrainMode]
  (repeat' split) <;> simp [h]
@[simp] theorem calibrateTrain_get (t : TrainId) (b : BlockId) (step : Nat) (h : part ∉ [Part.trains]) : (calibrateTrain t b step s).2.get part = s.get part := by
  simp at h
  simp only [calibrateTrain]
  (repeat' split) <;> simp [h]
@[simp] theorem cancelCalibration_get (t : TrainId) (h : part ∉ [Part.trains]) : (cancelCalibration t s).2.get part = s.get part := by
  simp at h
  simp only [cancelCalibration]
  (repeat' split) <;> simp [h]
@[simp] theorem clearBlock_get (b : BlockId) (h : part ∉ [Part.blocks, .paths, .trains]) : (clearBlock b s).2.get part = s.get part := by
  simp at h
  simp only [clearBlock]
  (repeat' split) <;> simp [h]
@[simp] theorem stopAll_get (h : part ∉ [Part.output, .fOut, .sOut, .blockCounters, .blocks, .turnouts, .paths, .queue, .serviceDue, .trains, .rotors, .events, .link, .mode, .report]) : (stopAll s).get part = s.get part := by
  simp at h
  simp only [stopAll]
  (repeat' split) <;> simp [h]

/-! ## Clock -/

@[simp] theorem updClock_get (f : DayClock → DayClock) (h : part ∉ [Part.clock]) : (s.updClock f).get part = s.get part := by
  cases part <;> first | rfl | simp at h
@[simp] theorem recomputeSky_get (h : part ∉ [Part.clock]) : (recomputeSky s).get part = s.get part := by
  simp at h
  simp only [recomputeSky]
  (repeat' split) <;> simp [h]
@[simp] theorem clockTick_get (h : part ∉ [Part.sOut, .blockCounters, .clock, .events, .link, .report, .now]) : (clockTick s).get part = s.get part := by
  simp at h
  simp only [clockTick]
  (repeat' split) <;> simp [h]
@[simp] theorem clockJump_get (second day : Nat) (h : part ∉ [Part.sOut, .blockCounters, .clock, .events, .link, .report]) : (clockJump second day s).2.get part = s.get part := by
  simp at h
  simp only [clockJump]
  (repeat' split) <;> simp [h]
@[simp] theorem clockSlew_get (second : Nat) (h : part ∉ [Part.clock]) : (clockSlew second s).2.get part = s.get part := by
  simp at h
  simp only [clockSlew]
  (repeat' split) <;> simp [h]
@[simp] theorem setClockRate_get (q : Nat) (h : part ∉ [Part.clock]) : (setClockRate q s).get part = s.get part := by
  simp at h
  simp only [setClockRate]
  (repeat' split) <;> simp [h]
@[simp] theorem acceptSample_get (sensor reference : Nat) (h : part ∉ [Part.blockCounters, .clock]) : (acceptSample sensor reference s).get part = s.get part := by
  simp at h
  simp only [acceptSample]
  (repeat' split) <;> simp [h]
@[simp] theorem takeLightcount_get (payload : List Byte) (h : part ∉ [Part.blockCounters, .clock]) : (takeLightcount payload s).get part = s.get part := by
  simp at h
  simp only [takeLightcount]
  (repeat' split) <;> simp [h]
@[simp] theorem expireAmbient_get (h : part ∉ [Part.sOut, .clock, .link, .report]) : (expireAmbient s).get part = s.get part := by
  simp at h
  simp only [expireAmbient]
  (repeat' split) <;> simp [h]

/-! ## Lamps -/

@[simp] theorem mapChannels_get (f : ChannelId → ChannelState → ChannelState) (h : part ∉ [Part.channels]) : (s.mapChannels f).get part = s.get part := by
  cases part <;> first | rfl | simp at h
@[simp] theorem restate_get (h : part ∉ [Part.channels, .lampCycle]) : (restate s).get part = s.get part := by
  simp at h
  simp only [restate]
  (repeat' split) <;> simp [h]
@[simp] theorem markOffered_get (cs : List ChannelId) (h : part ∉ [Part.channels]) : (markOffered cs s).get part = s.get part := by
  simp at h
  simp only [markOffered]
  (repeat' split) <;> simp [h]
@[simp] theorem offerRun_get (r : LevelRun) (h : part ∉ [Part.output, .blockCounters, .channels]) : (offerRun r s).get part = s.get part := by
  simp at h
  simp only [offerRun]
  (repeat' split) <;> simp [h]
@[simp] theorem sendLevels_get (h : part ∉ [Part.output, .blockCounters, .channels]) : (sendLevels s).get part = s.get part := by
  simp at h
  simp only [sendLevels]
  (repeat' split) <;> simp [h]
@[simp] theorem computeChannels_get (h : part ∉ [Part.channels]) : (computeChannels s).get part = s.get part := by
  simp at h
  simp only [computeChannels]
  (repeat' split) <;> simp [h]
@[simp] theorem advanceFlash_get (h : part ∉ [Part.lampCycle]) : (advanceFlash s).get part = s.get part := by
  cases part <;> first | rfl | simp at h
@[simp] theorem refreshLamps_get (h : part ∉ [Part.output, .blockCounters, .channels, .lampCycle]) : (refreshLamps s).get part = s.get part := by
  simp at h
  simp only [refreshLamps]
  (repeat' split) <;> simp [h]
@[simp] theorem overrideChannel_get (c : ChannelId) (level duration : Nat) (h : part ∉ [Part.channels]) : (overrideChannel c level duration s).2.get part = s.get part := by
  simp at h
  simp only [overrideChannel]
  (repeat' split) <;> simp [h]
@[simp] theorem adjustLevel_get (node nodeChannel : Nat) (level : Byte) (h : part ∉ [Part.channels]) : (adjustLevel node nodeChannel level s).2.get part = s.get part := by
  simp at h
  simp only [adjustLevel]
  (repeat' split) <;> simp [h]
@[simp] theorem adjustLevels_get (node k : Nat) (ls : List Byte) (h : part ∉ [Part.channels]) : (adjustLevels node k ls s).2.get part = s.get part := by
  induction ls generalizing k s with
  | nil => rfl
  | cons q qs ih => rw [adjustLevels, ih, adjustLevel_get _ _ _ h]
@[simp] theorem adjustPayload_get (node : Nat) (payload : List Byte) (h : part ∉ [Part.channels]) : (adjustPayload node payload s).2.get part = s.get part := by
  simp at h
  simp only [adjustPayload]
  (repeat' split) <;> simp [h]

/-! ## Cues -/

@[simp] theorem enableCue_get (k : CueId) (h : part ∉ [Part.cues]) : (enableCue k s).2.get part = s.get part := by
  simp at h
  simp only [enableCue]
  (repeat' split) <;> simp [h]
@[simp] theorem disableCue_get (k : CueId) (h : part ∉ [Part.cues]) : (disableCue k s).2.get part = s.get part := by
  simp at h
  simp only [disableCue]
  (repeat' split) <;> simp [h]
@[simp] theorem cueAction_get (k : CueId) (o : Origin) (a : CueAction) (h : part ∉ [Part.output, .fOut, .sOut, .blockCounters, .blocks, .turnouts, .paths, .queue, .serviceDue, .trains, .clock, .channels, .rotors, .cues, .events, .link, .mode, .report]) : (cueAction k o a s).2.get part = s.get part := by
  simp at h
  simp only [cueAction]
  (repeat' split) <;> simp [h]
@[simp] theorem cueActions_get (k : CueId) (o : Origin) (pos : Nat) (as : List CueAction) (h : part ∉ [Part.output, .fOut, .sOut, .blockCounters, .blocks, .turnouts, .paths, .queue, .serviceDue, .trains, .clock, .channels, .rotors, .cues, .events, .link, .mode, .report]) : (cueActions k o pos as s).get part = s.get part := by
  induction as generalizing pos s with
  | nil => rfl
  | cons q qs ih =>
    simp at h
    simp only [cueActions]
    rw [ih]
    split <;> simp [h]
@[simp] theorem announceFiring_get (k : CueId) (depth : Nat) (o : Origin) (h : part ∉ [Part.sOut, .blockCounters, .events, .link, .report]) : (announceFiring k depth o s).get part = s.get part := by
  simp at h
  simp only [announceFiring]
  (repeat' split) <;> simp [h]
@[simp] theorem fireCue_get (k : CueId) (depth : Nat) (o : Origin) (h : part ∉ [Part.output, .fOut, .sOut, .blockCounters, .blocks, .turnouts, .paths, .queue, .serviceDue, .trains, .clock, .channels, .rotors, .cues, .events, .link, .mode, .report]) : (fireCue k depth o s).get part = s.get part := by
  simp at h
  simp only [fireCue]
  (repeat' split) <;> simp [h]
@[simp] theorem judgeAt_get (v : CueEvent) (k : CueId) (h : part ∉ [Part.output, .fOut, .sOut, .blockCounters, .blocks, .turnouts, .paths, .queue, .serviceDue, .trains, .clock, .channels, .rotors, .cues, .events, .link, .mode, .report]) : (judgeAt v k s).get part = s.get part := by
  simp at h
  simp only [judgeAt]
  (repeat' split) <;> simp [h]
@[simp] theorem judgeEvent_get (v : CueEvent) (h : part ∉ [Part.output, .fOut, .sOut, .blockCounters, .blocks, .turnouts, .paths, .queue, .serviceDue, .trains, .clock, .channels, .rotors, .cues, .events, .link, .mode, .report]) : (judgeEvent v s).get part = s.get part := by
  simp at h
  simp only [judgeEvent]
  (repeat' split) <;> simp [h]

/-! ## FieldArrivals -/

@[simp] theorem addMissing_get (node : Nat) (h : part ∉ [Part.missing]) : (addMissing node s).get part = s.get part := by
  cases part <;> first | rfl | simp at h
@[simp] theorem removeMissing_get (node : Nat) (h : part ∉ [Part.missing]) : (removeMissing node s).get part = s.get part := by
  cases part <;> first | rfl | simp at h
@[simp] theorem unclaimedEffect_get (f : Frame) (h : part ∉ [Part.output, .fOut, .sOut, .blocks, .turnouts, .paths, .queue, .serviceDue, .trains, .rotors, .link, .report]) : (unclaimedEffect f s).get part = s.get part := by
  simp at h
  simp only [unclaimedEffect]
  (repeat' split) <;> simp [h]
@[simp] theorem takeUnclaimed_get (f : Frame) (h : part ∉ [Part.output, .missing, .fOut, .sOut, .blockCounters, .blocks, .turnouts, .paths, .queue, .serviceDue, .trains, .rotors, .events, .link, .mode, .report]) : (takeUnclaimed f s).get part = s.get part := by
  simp at h
  simp only [takeUnclaimed]
  (repeat' split) <;> simp [h]
@[simp] theorem deliverReport_get (f : Frame) (h : part ∉ [Part.trainTable, .output, .fOut, .sOut, .blockCounters, .entries, .views, .indications, .blocks, .turnouts, .paths, .queue, .serviceDue, .trains, .clock, .rotors, .events, .link, .mode, .report]) : (deliverReport f s).2.get part = s.get part := by
  simp at h
  simp only [deliverReport]
  (repeat' split) <;> simp [h]
@[simp] theorem disposeReport_get (f : Frame) (taken : Bool) (h : part ∉ [Part.fIn, .fInDrops, .link]) : (disposeReport f taken s).get part = s.get part := by
  simp at h
  simp only [disposeReport]
  (repeat' split) <;> simp [h]
@[simp] theorem takeReport_get (f : Frame) (h : part ∉ [Part.trainTable, .output, .missing, .fIn, .fInDrops, .fOut, .sOut, .blockCounters, .entries, .views, .indications, .blocks, .turnouts, .paths, .queue, .serviceDue, .trains, .clock, .rotors, .events, .link, .mode, .report]) : (takeReport f s).get part = s.get part := by
  simp at h
  simp only [takeReport]
  (repeat' split) <;> simp [h]
@[simp] theorem classifyFIn_get (f : Frame) (h : part ∉ [Part.trainTable, .output, .missing, .loop, .fIn, .fInDrops, .fOut, .sOut, .blockCounters, .entries, .views, .indications, .blocks, .turnouts, .paths, .queue, .serviceDue, .trains, .clock, .rotors, .events, .link, .mode, .report]) : (classifyFIn f s).get part = s.get part := by
  simp at h
  simp only [classifyFIn]
  (repeat' split) <;> simp [h]
@[simp] theorem arriveFIn_get (f : Frame) (h : part ∉ [Part.trainTable, .output, .missing, .loop, .fIn, .fInDrops, .fOut, .sOut, .blockCounters, .entries, .views, .indications, .blocks, .turnouts, .paths, .queue, .serviceDue, .trains, .clock, .rotors, .events, .link, .mode, .report]) : (arriveFIn f s).get part = s.get part := by
  simp at h
  simp only [arriveFIn]
  (repeat' split) <;> simp [h]
@[simp] theorem receiveFIn_get (chars : List Byte) (h : part ∉ [Part.trainTable, .output, .missing, .loop, .fIn, .fInDrops, .fOut, .sOut, .blockCounters, .entries, .views, .indications, .blocks, .turnouts, .paths, .queue, .serviceDue, .trains, .clock, .rotors, .events, .link, .mode, .report]) : (receiveFIn chars s).get part = s.get part := by
  simp at h
  simp only [receiveFIn]
  (repeat' split) <;> simp [h]

/-! ## ShowArrivals -/

@[simp] theorem handOn_get (f : Frame) (h : part ∉ [Part.output, .sIn, .sInDrops, .sOut, .link, .report]) : (handOn f s).get part = s.get part := by
  simp only [handOn]
  split
  · cases part <;> first | rfl | exact grant_missing _ | simp at h
  · simp at h; simp [h]
@[simp] theorem consumeFrame_get (h : part ∉ [Part.sIn]) : (consumeFrame s).get part = s.get part := by
  simp at h
  simp only [consumeFrame]
  (repeat' split) <;> simp [h]
@[simp] theorem takeGuided_get (t : TrainId) (step : Nat) (h : part ∉ [Part.trains]) : (takeGuided t step s).get part = s.get part := by
  simp at h
  simp only [takeGuided]
  (repeat' split) <;> simp [h]
@[simp] theorem stopGuided_get (t : TrainId) (h : part ∉ [Part.output, .fOut, .trains]) : (stopGuided t s).get part = s.get part := by
  simp at h
  simp only [stopGuided]
  (repeat' split) <;> simp [h]
@[simp] theorem hostDrive_get (f : Frame) (h : part ∉ [Part.output, .sIn, .sInDrops, .fOut, .sOut, .trains, .link, .report]) : (hostDrive f s).get part = s.get part := by
  simp at h
  simp only [hostDrive]
  (repeat' split) <;> simp [h]
@[simp] theorem hostSwitch_get (f : Frame) (h : part ∉ [Part.output, .sIn, .sInDrops, .sOut, .turnouts, .link, .report]) : (hostSwitch f s).get part = s.get part := by
  simp at h
  simp only [hostSwitch]
  (repeat' split) <;> simp [h]
@[simp] theorem hostRotor_get (f : Frame) (h : part ∉ [Part.output, .sIn, .sInDrops, .sOut, .rotors, .link, .report]) : (hostRotor f s).get part = s.get part := by
  simp at h
  simp only [hostRotor]
  (repeat' split) <;> simp [h]
@[simp] theorem hostLevel_get (f : Frame) (h : part ∉ [Part.output, .sIn, .sInDrops, .sOut, .channels, .link, .report]) : (hostLevel f s).get part = s.get part := by
  simp at h
  simp only [hostLevel]
  (repeat' split) <;> simp [h]
@[simp] theorem routeHost_get (f : Frame) (h : part ∉ [Part.output, .sIn, .sInDrops, .fOut, .sOut, .blockCounters, .blocks, .turnouts, .paths, .queue, .serviceDue, .trains, .channels, .rotors, .events, .link, .mode, .report]) : (routeHost f s).get part = s.get part := by
  simp at h
  simp only [routeHost]
  (repeat' split) <;> simp [h]

end Sys2Proof.Machine
end

