-- ==== Sys2Proof/Laws/PerInstr.lean ====
section
/-!
SUPPORT. Per-command laws. F: a well-formed command that is the arrival of a frame carries a frame within the limits of Table 11-1.
-/

namespace Sys2Proof.Laws.F

open Sys2Proof.Machine

/-- The frames of a command are within the limits of Table 11-1. -/
def Statement (i : Instr) : Prop :=
  i.wellFormed = true → (∀ f, fieldFrame i = some f → f.inLimits) ∧ ∀ f, showFrame i = some f → f.inLimits

/-- A command that is no arrival of one frame. -/
theorem of_no_frame {i : Instr} (hf : fieldFrame i = none) (hs : showFrame i = none) : Statement i := by
  intro _
  simp [hf, hs]

/-- A command that is an arrival at F-in. -/
theorem of_field {i : Instr} {f : Frame} (hf : fieldFrame i = some f) (hs : showFrame i = none) (h : i.wellFormed = true → f.inLimits) :
    Statement i := by
  intro w
  simp [hf, hs, h w]

/-- A command that is an arrival at S-in. -/
theorem of_show {i : Instr} {f : Frame} (hf : fieldFrame i = none) (hs : showFrame i = some f) (h : i.wellFormed = true → f.inLimits) :
    Statement i := by
  intro w
  simp [hf, hs, h w]

/-- A frame is within the limits when its addresses and its payload are. -/
theorem inLimits_mk {d s k : Byte} {p : List Byte} (hd : d.toNat ≤ 127) (hs : s.toNat ≤ 127) (hp : payloadFits p = true) :
    Frame.inLimits { dest := d, src := s, kind := k, payload := p } :=
  ⟨hd, hs, of_decide_eq_true hp⟩

/-- A node's address is within the limits. -/
theorem isNode_le {a : Byte} (h : isNode a = true) : a.toNat ≤ 127 := by
  simp only [isNode, Bool.and_eq_true, decide_eq_true_eq] at h
  omega

/-- A request that fits makes a frame within the limits. -/
theorem request_inLimits (tag : Byte) (r : Request) (h : requestFits r = true) : (hostFrame 0 kindMgmt (requestPayload tag r)).inLimits :=
  inLimits_mk (by decide) (by decide) h

/-- A host frame for the field within the limits. -/
theorem host_inLimits (dest kind : Byte) (payload : List Byte) (h : (isFieldDest dest && payloadFits payload) = true) :
    (hostFrame dest kind payload).inLimits := by
  simp only [Bool.and_eq_true, isFieldDest, Bool.or_eq_true, decide_eq_true_eq] at h
  refine inLimits_mk ?_ (by decide) h.2
  rcases h.1 with h | h
  · exact isNode_le h
  · simp [h]

/-- A node's report within the limits. -/
theorem report_inLimits (src kind : Byte) (payload : List Byte) (h : (isNode src && payloadFits payload) = true) :
    Frame.inLimits { dest := 0, src, kind, payload } := by
  simp only [Bool.and_eq_true] at h
  exact inLimits_mk (by decide) (isNode_le h.1) h.2

theorem powerOn : Statement .powerOn := of_no_frame rfl rfl
theorem startUpLoadComplete : Statement .startUpLoadComplete := of_no_frame rfl rfl
theorem restoreLoadComplete : Statement .restoreLoadComplete := of_no_frame rfl rfl
theorem fInFrame (chars : List Byte) : Statement (.fInFrame chars) := of_no_frame rfl rfl
theorem echoReceived (payload : List Byte) : Statement (.echoReceived payload) := of_field rfl rfl (inLimits_mk (by decide) (by decide))
theorem unclaimedFrame (dest kind : Byte) (payload : List Byte) : Statement (.unclaimedFrame dest kind payload) := by
  refine of_field rfl rfl fun h => ?_
  simp only [Instr.wellFormed, Bool.and_eq_true] at h
  exact inLimits_mk (isNode_le h.1.1) (by decide) h.2
theorem senseReceived (src : Byte) (payload : List Byte) : Statement (.senseReceived src payload) := of_field rfl rfl (report_inLimits src _ payload)
theorem lightcountReceived (src : Byte) (payload : List Byte) : Statement (.lightcountReceived src payload) := of_field rfl rfl (report_inLimits src _ payload)
theorem nodeFaultReceived (src : Byte) (payload : List Byte) : Statement (.nodeFaultReceived src payload) := of_field rfl rfl (report_inLimits src _ payload)
theorem sInFrame (chars : List Byte) : Statement (.sInFrame chars) := of_no_frame rfl rfl
theorem hostDrive (dest : Byte) (payload : List Byte) : Statement (.hostDrive dest payload) := of_show rfl rfl (host_inLimits dest _ payload)
theorem hostSwitch (dest : Byte) (payload : List Byte) : Statement (.hostSwitch dest payload) := of_show rfl rfl (host_inLimits dest _ payload)
theorem hostRotor (dest : Byte) (payload : List Byte) : Statement (.hostRotor dest payload) := of_show rfl rfl (host_inLimits dest _ payload)
theorem hostLevel (dest : Byte) (payload : List Byte) : Statement (.hostLevel dest payload) := of_show rfl rfl (host_inLimits dest _ payload)
theorem hostAllstop (dest : Byte) (payload : List Byte) : Statement (.hostAllstop dest payload) := of_show rfl rfl (host_inLimits dest _ payload)
theorem hostSenseRequest (dest : Byte) (payload : List Byte) : Statement (.hostSenseRequest dest payload) := of_show rfl rfl (host_inLimits dest _ payload)
theorem hostUnknownKindFrame (dest kind : Byte) (payload : List Byte) : Statement (.hostUnknownKindFrame dest kind payload) := by
  refine of_show rfl rfl fun h => host_inLimits dest kind payload ?_
  simp only [Instr.wellFormed, Bool.and_eq_true] at h
  simp [h.1.1, h.2]
theorem unknownRequest (payload : List Byte) : Statement (.unknownRequest payload) := by
  refine of_show rfl rfl fun h => inLimits_mk (by decide) (by decide) ?_
  match payload, h with
  | [], _ => rfl
  | [_], _ => rfl
  | _ :: _ :: _, h =>
    simp only [Instr.wellFormed, isNoRequest, Bool.and_eq_true] at h
    exact h.1
theorem identify (tag : Byte) : Statement (.identify tag) := of_show rfl rfl (request_inLimits tag _)
theorem readTable (tag table start count : Byte) : Statement (.readTable tag table start count) := of_show rfl rfl (request_inLimits tag _)
theorem writeTable (tag table start : Byte) (entries : List Byte) : Statement (.writeTable tag table start entries) := of_show rfl rfl (request_inLimits tag _)
theorem readState (tag block first count : Byte) : Statement (.readState tag block first count) := of_show rfl rfl (request_inLimits tag _)
theorem readFlags (tag : Byte) : Statement (.readFlags tag) := of_show rfl rfl (request_inLimits tag _)
theorem writeMask (tag : Byte) (mask : BitVec 32) : Statement (.writeMask tag mask) := of_show rfl rfl (request_inLimits tag _)
theorem readCounters (tag group : Byte) : Statement (.readCounters tag group) := of_show rfl rfl (request_inLimits tag _)
theorem clearCounters (tag : Byte) : Statement (.clearCounters tag) := of_show rfl rfl (request_inLimits tag _)
theorem setMode (tag mode : Byte) : Statement (.setMode tag mode) := of_show rfl rfl (request_inLimits tag _)
theorem stopAll (tag : Byte) : Statement (.stopAll tag) := of_show rfl rfl (request_inLimits tag _)
theorem dispatch (tag train route : Byte) (wait : BitVec 16) : Statement (.dispatch tag train route wait) := of_show rfl rfl (request_inLimits tag _)
theorem cancelRequest (tag train : Byte) : Statement (.cancelRequest tag train) := of_show rfl rfl (request_inLimits tag _)
theorem setTrainMode (tag train mode : Byte) : Statement (.setTrainMode tag train mode) := of_show rfl rfl (request_inLimits tag _)
theorem locate (tag train : Byte) (blocks : List Byte) : Statement (.locate tag train blocks) := of_show rfl rfl (request_inLimits tag _)
theorem remove (tag train : Byte) : Statement (.remove tag train) := of_show rfl rfl (request_inLimits tag _)
theorem clearHalt (tag train : Byte) : Statement (.clearHalt tag train) := of_show rfl rfl (request_inLimits tag _)
theorem reverse (tag train : Byte) : Statement (.reverse tag train) := of_show rfl rfl (request_inLimits tag _)
theorem calibrate (tag train block step : Byte) : Statement (.calibrate tag train block step) := of_show rfl rfl (request_inLimits tag _)
theorem cancelCalibration (tag train : Byte) : Statement (.cancelCalibration tag train) := of_show rfl rfl (request_inLimits tag _)
theorem turnoutRetry (tag turnout : Byte) : Statement (.turnoutRetry tag turnout) := of_show rfl rfl (request_inLimits tag _)
theorem clearBlock (tag block : Byte) : Statement (.clearBlock tag block) := of_show rfl rfl (request_inLimits tag _)
theorem rotorStart (tag rotor step : Byte) : Statement (.rotorStart tag rotor step) := of_show rfl rfl (request_inLimits tag _)
theorem rotorStop (tag rotor : Byte) : Statement (.rotorStop tag rotor) := of_show rfl rfl (request_inLimits tag _)
theorem rotorHalt (tag rotor : Byte) : Statement (.rotorHalt tag rotor) := of_show rfl rfl (request_inLimits tag _)
theorem clearRotor (tag rotor : Byte) : Statement (.clearRotor tag rotor) := of_show rfl rfl (request_inLimits tag _)
theorem clockSetJump (tag : Byte) (second : BitVec 24) (day : BitVec 16) : Statement (.clockSetJump tag second day) := of_show rfl rfl (request_inLimits tag _)
theorem clockSetSlew (tag : Byte) (second : BitVec 24) (day : BitVec 16) : Statement (.clockSetSlew tag second day) := of_show rfl rfl (request_inLimits tag _)
theorem clockRate (tag : Byte) (rate : BitVec 16) : Statement (.clockRate tag rate) := of_show rfl rfl (request_inLimits tag _)
theorem cueFire (tag cue : Byte) : Statement (.cueFire tag cue) := of_show rfl rfl (request_inLimits tag _)
theorem cueEnable (tag cue : Byte) : Statement (.cueEnable tag cue) := of_show rfl rfl (request_inLimits tag _)
theorem cueDisable (tag cue : Byte) : Statement (.cueDisable tag cue) := of_show rfl rfl (request_inLimits tag _)
theorem cueResetStamp (tag cue : Byte) : Statement (.cueResetStamp tag cue) := of_show rfl rfl (request_inLimits tag _)
theorem store (tag : Byte) : Statement (.store tag) := of_show rfl rfl (request_inLimits tag _)
theorem restore (tag : Byte) : Statement (.restore tag) := of_show rfl rfl (request_inLimits tag _)
theorem restart (tag : Byte) : Statement (.restart tag) := of_show rfl rfl (request_inLimits tag _)
theorem storeWriteDone : Statement .storeWriteDone := of_no_frame rfl rfl
theorem storeWriteError : Statement .storeWriteError := of_no_frame rfl rfl
theorem echoIntervalExpiry : Statement .echoIntervalExpiry := of_no_frame rfl rfl
theorem watchdogExpiry : Statement .watchdogExpiry := of_no_frame rfl rfl
theorem filterTimerExpiry (entry : Fin 128) : Statement (.filterTimerExpiry entry) := of_no_frame rfl rfl
theorem throwTimerExpiry (turnout : Fin 16) : Statement (.throwTimerExpiry turnout) := of_no_frame rfl rfl
theorem warnTimerExpiry (block : Fin 48) : Statement (.warnTimerExpiry block) := of_no_frame rfl rfl
theorem waitTimerExpiry (train : Fin 8) : Statement (.waitTimerExpiry train) := of_no_frame rfl rfl
theorem motionUpdate : Statement .motionUpdate := of_no_frame rfl rfl
theorem trainRefreshExpiry (train : Fin 8) : Statement (.trainRefreshExpiry train) := of_no_frame rfl rfl
theorem guideTimerExpiry (train : Fin 8) : Statement (.guideTimerExpiry train) := of_no_frame rfl rfl
theorem dayClockTick : Statement .dayClockTick := of_no_frame rfl rfl
theorem ambientTimerExpiry : Statement .ambientTimerExpiry := of_no_frame rfl rfl
theorem lampRefresh : Statement .lampRefresh := of_no_frame rfl rfl
theorem staggerTimerExpiry (channel : Fin 192) : Statement (.staggerTimerExpiry channel) := of_no_frame rfl rfl
theorem overrideTimerExpiry (channel : Fin 192) : Statement (.overrideTimerExpiry channel) := of_no_frame rfl rfl
theorem rotorUpdate : Statement .rotorUpdate := of_no_frame rfl rfl
theorem rotorRefreshExpiry (rotor : Fin 4) : Statement (.rotorRefreshExpiry rotor) := of_no_frame rfl rfl
theorem windowTimerExpiry (cue : Fin 64) : Statement (.windowTimerExpiry cue) := of_no_frame rfl rfl
theorem holdOffTimerExpiry (cue : Fin 64) : Statement (.holdOffTimerExpiry cue) := of_no_frame rfl rfl
theorem cueEventJudgement : Statement .cueEventJudgement := of_no_frame rfl rfl
theorem fOutTransmitComplete : Statement .fOutTransmitComplete := of_no_frame rfl rfl
theorem sOutTransmitComplete : Statement .sOutTransmitComplete := of_no_frame rfl rfl

end Sys2Proof.Laws.F
end

