-- ==== Sys2Proof/Laws/State.lean ====
section
/-!
SUPPORT. The small lemmas of the state's updates: what each update function does to each field, and what each record reads after it.
-/

namespace Sys2Proof.Machine

variable (s : State)

/-! ## Vectors -/

theorem modifyAt_get {α : Type} {n : Nat} (v : Vector α n) (i j : Fin n) (f : α → α) :
    (modifyAt v i f)[j] = if i = j then f v[i] else v[j] := by
  simp only [modifyAt, Fin.getElem_fin, Vector.getElem_set, Fin.ext_iff]

@[simp] theorem tabulate_get {α : Type} {n : Nat} (f : Fin n → α) (i : Fin n) : (tabulate f)[i] = f i := by
  simp [tabulate]

/-! ## The field each update writes, and the fields it leaves -/

@[simp] theorem State.updBlock_tables (b : BlockId) (f : BlockState → BlockState) : (s.updBlock b f).tables = s.tables := rfl
@[simp] theorem State.updBlock_field (b : BlockId) (f : BlockState → BlockState) : (s.updBlock b f).field = s.field := rfl
@[simp] theorem State.updBlock_loop (b : BlockId) (f : BlockState → BlockState) : (s.updBlock b f).loop = s.loop := rfl
@[simp] theorem State.updBlock_counters (b : BlockId) (f : BlockState → BlockState) : (s.updBlock b f).counters = s.counters := rfl
@[simp] theorem State.updBlock_filter (b : BlockId) (f : BlockState → BlockState) : (s.updBlock b f).filter = s.filter := rfl
@[simp] theorem State.updBlock_interlock (b : BlockId) (f : BlockState → BlockState) : (s.updBlock b f).interlock = { s.interlock with blocks := modifyAt s.interlock.blocks b f } := rfl
@[simp] theorem State.updBlock_motion (b : BlockId) (f : BlockState → BlockState) : (s.updBlock b f).motion = s.motion := rfl
@[simp] theorem State.updBlock_clock (b : BlockId) (f : BlockState → BlockState) : (s.updBlock b f).clock = s.clock := rfl
@[simp] theorem State.updBlock_lamps (b : BlockId) (f : BlockState → BlockState) : (s.updBlock b f).lamps = s.lamps := rfl
@[simp] theorem State.updBlock_rotors (b : BlockId) (f : BlockState → BlockState) : (s.updBlock b f).rotors = s.rotors := rfl
@[simp] theorem State.updBlock_cues (b : BlockId) (f : BlockState → BlockState) : (s.updBlock b f).cues = s.cues := rfl
@[simp] theorem State.updBlock_link (b : BlockId) (f : BlockState → BlockState) : (s.updBlock b f).link = s.link := rfl
@[simp] theorem State.updBlock_mgmt (b : BlockId) (f : BlockState → BlockState) : (s.updBlock b f).mgmt = s.mgmt := rfl
@[simp] theorem State.updBlock_report (b : BlockId) (f : BlockState → BlockState) : (s.updBlock b f).report = s.report := rfl
@[simp] theorem State.updBlock_store (b : BlockId) (f : BlockState → BlockState) : (s.updBlock b f).store = s.store := rfl
@[simp] theorem State.updBlock_now (b : BlockId) (f : BlockState → BlockState) : (s.updBlock b f).now = s.now := rfl
@[simp] theorem State.updBlock_pending (b : BlockId) (f : BlockState → BlockState) : (s.updBlock b f).pending = s.pending := rfl

@[simp] theorem State.updTurnout_tables (u : TurnoutId) (f : TurnoutState → TurnoutState) : (s.updTurnout u f).tables = s.tables := rfl
@[simp] theorem State.updTurnout_field (u : TurnoutId) (f : TurnoutState → TurnoutState) : (s.updTurnout u f).field = s.field := rfl
@[simp] theorem State.updTurnout_loop (u : TurnoutId) (f : TurnoutState → TurnoutState) : (s.updTurnout u f).loop = s.loop := rfl
@[simp] theorem State.updTurnout_counters (u : TurnoutId) (f : TurnoutState → TurnoutState) : (s.updTurnout u f).counters = s.counters := rfl
@[simp] theorem State.updTurnout_filter (u : TurnoutId) (f : TurnoutState → TurnoutState) : (s.updTurnout u f).filter = s.filter := rfl
@[simp] theorem State.updTurnout_interlock (u : TurnoutId) (f : TurnoutState → TurnoutState) : (s.updTurnout u f).interlock = { s.interlock with turnouts := modifyAt s.interlock.turnouts u f } := rfl
@[simp] theorem State.updTurnout_motion (u : TurnoutId) (f : TurnoutState → TurnoutState) : (s.updTurnout u f).motion = s.motion := rfl
@[simp] theorem State.updTurnout_clock (u : TurnoutId) (f : TurnoutState → TurnoutState) : (s.updTurnout u f).clock = s.clock := rfl
@[simp] theorem State.updTurnout_lamps (u : TurnoutId) (f : TurnoutState → TurnoutState) : (s.updTurnout u f).lamps = s.lamps := rfl
@[simp] theorem State.updTurnout_rotors (u : TurnoutId) (f : TurnoutState → TurnoutState) : (s.updTurnout u f).rotors = s.rotors := rfl
@[simp] theorem State.updTurnout_cues (u : TurnoutId) (f : TurnoutState → TurnoutState) : (s.updTurnout u f).cues = s.cues := rfl
@[simp] theorem State.updTurnout_link (u : TurnoutId) (f : TurnoutState → TurnoutState) : (s.updTurnout u f).link = s.link := rfl
@[simp] theorem State.updTurnout_mgmt (u : TurnoutId) (f : TurnoutState → TurnoutState) : (s.updTurnout u f).mgmt = s.mgmt := rfl
@[simp] theorem State.updTurnout_report (u : TurnoutId) (f : TurnoutState → TurnoutState) : (s.updTurnout u f).report = s.report := rfl
@[simp] theorem State.updTurnout_store (u : TurnoutId) (f : TurnoutState → TurnoutState) : (s.updTurnout u f).store = s.store := rfl
@[simp] theorem State.updTurnout_now (u : TurnoutId) (f : TurnoutState → TurnoutState) : (s.updTurnout u f).now = s.now := rfl
@[simp] theorem State.updTurnout_pending (u : TurnoutId) (f : TurnoutState → TurnoutState) : (s.updTurnout u f).pending = s.pending := rfl

@[simp] theorem State.updPath_tables (t : TrainId) (f : TrainPath → TrainPath) : (s.updPath t f).tables = s.tables := rfl
@[simp] theorem State.updPath_field (t : TrainId) (f : TrainPath → TrainPath) : (s.updPath t f).field = s.field := rfl
@[simp] theorem State.updPath_loop (t : TrainId) (f : TrainPath → TrainPath) : (s.updPath t f).loop = s.loop := rfl
@[simp] theorem State.updPath_counters (t : TrainId) (f : TrainPath → TrainPath) : (s.updPath t f).counters = s.counters := rfl
@[simp] theorem State.updPath_filter (t : TrainId) (f : TrainPath → TrainPath) : (s.updPath t f).filter = s.filter := rfl
@[simp] theorem State.updPath_interlock (t : TrainId) (f : TrainPath → TrainPath) : (s.updPath t f).interlock = { s.interlock with paths := modifyAt s.interlock.paths t f } := rfl
@[simp] theorem State.updPath_motion (t : TrainId) (f : TrainPath → TrainPath) : (s.updPath t f).motion = s.motion := rfl
@[simp] theorem State.updPath_clock (t : TrainId) (f : TrainPath → TrainPath) : (s.updPath t f).clock = s.clock := rfl
@[simp] theorem State.updPath_lamps (t : TrainId) (f : TrainPath → TrainPath) : (s.updPath t f).lamps = s.lamps := rfl
@[simp] theorem State.updPath_rotors (t : TrainId) (f : TrainPath → TrainPath) : (s.updPath t f).rotors = s.rotors := rfl
@[simp] theorem State.updPath_cues (t : TrainId) (f : TrainPath → TrainPath) : (s.updPath t f).cues = s.cues := rfl
@[simp] theorem State.updPath_link (t : TrainId) (f : TrainPath → TrainPath) : (s.updPath t f).link = s.link := rfl
@[simp] theorem State.updPath_mgmt (t : TrainId) (f : TrainPath → TrainPath) : (s.updPath t f).mgmt = s.mgmt := rfl
@[simp] theorem State.updPath_report (t : TrainId) (f : TrainPath → TrainPath) : (s.updPath t f).report = s.report := rfl
@[simp] theorem State.updPath_store (t : TrainId) (f : TrainPath → TrainPath) : (s.updPath t f).store = s.store := rfl
@[simp] theorem State.updPath_now (t : TrainId) (f : TrainPath → TrainPath) : (s.updPath t f).now = s.now := rfl
@[simp] theorem State.updPath_pending (t : TrainId) (f : TrainPath → TrainPath) : (s.updPath t f).pending = s.pending := rfl

@[simp] theorem State.updTrain_tables (t : TrainId) (f : TrainRecord → TrainRecord) : (s.updTrain t f).tables = s.tables := rfl
@[simp] theorem State.updTrain_field (t : TrainId) (f : TrainRecord → TrainRecord) : (s.updTrain t f).field = s.field := rfl
@[simp] theorem State.updTrain_loop (t : TrainId) (f : TrainRecord → TrainRecord) : (s.updTrain t f).loop = s.loop := rfl
@[simp] theorem State.updTrain_counters (t : TrainId) (f : TrainRecord → TrainRecord) : (s.updTrain t f).counters = s.counters := rfl
@[simp] theorem State.updTrain_filter (t : TrainId) (f : TrainRecord → TrainRecord) : (s.updTrain t f).filter = s.filter := rfl
@[simp] theorem State.updTrain_interlock (t : TrainId) (f : TrainRecord → TrainRecord) : (s.updTrain t f).interlock = s.interlock := rfl
@[simp] theorem State.updTrain_motion (t : TrainId) (f : TrainRecord → TrainRecord) : (s.updTrain t f).motion = { s.motion with trains := modifyAt s.motion.trains t f } := rfl
@[simp] theorem State.updTrain_clock (t : TrainId) (f : TrainRecord → TrainRecord) : (s.updTrain t f).clock = s.clock := rfl
@[simp] theorem State.updTrain_lamps (t : TrainId) (f : TrainRecord → TrainRecord) : (s.updTrain t f).lamps = s.lamps := rfl
@[simp] theorem State.updTrain_rotors (t : TrainId) (f : TrainRecord → TrainRecord) : (s.updTrain t f).rotors = s.rotors := rfl
@[simp] theorem State.updTrain_cues (t : TrainId) (f : TrainRecord → TrainRecord) : (s.updTrain t f).cues = s.cues := rfl
@[simp] theorem State.updTrain_link (t : TrainId) (f : TrainRecord → TrainRecord) : (s.updTrain t f).link = s.link := rfl
@[simp] theorem State.updTrain_mgmt (t : TrainId) (f : TrainRecord → TrainRecord) : (s.updTrain t f).mgmt = s.mgmt := rfl
@[simp] theorem State.updTrain_report (t : TrainId) (f : TrainRecord → TrainRecord) : (s.updTrain t f).report = s.report := rfl
@[simp] theorem State.updTrain_store (t : TrainId) (f : TrainRecord → TrainRecord) : (s.updTrain t f).store = s.store := rfl
@[simp] theorem State.updTrain_now (t : TrainId) (f : TrainRecord → TrainRecord) : (s.updTrain t f).now = s.now := rfl
@[simp] theorem State.updTrain_pending (t : TrainId) (f : TrainRecord → TrainRecord) : (s.updTrain t f).pending = s.pending := rfl

@[simp] theorem State.updChannel_tables (c : ChannelId) (f : ChannelState → ChannelState) : (s.updChannel c f).tables = s.tables := rfl
@[simp] theorem State.updChannel_field (c : ChannelId) (f : ChannelState → ChannelState) : (s.updChannel c f).field = s.field := rfl
@[simp] theorem State.updChannel_loop (c : ChannelId) (f : ChannelState → ChannelState) : (s.updChannel c f).loop = s.loop := rfl
@[simp] theorem State.updChannel_counters (c : ChannelId) (f : ChannelState → ChannelState) : (s.updChannel c f).counters = s.counters := rfl
@[simp] theorem State.updChannel_filter (c : ChannelId) (f : ChannelState → ChannelState) : (s.updChannel c f).filter = s.filter := rfl
@[simp] theorem State.updChannel_interlock (c : ChannelId) (f : ChannelState → ChannelState) : (s.updChannel c f).interlock = s.interlock := rfl
@[simp] theorem State.updChannel_motion (c : ChannelId) (f : ChannelState → ChannelState) : (s.updChannel c f).motion = s.motion := rfl
@[simp] theorem State.updChannel_clock (c : ChannelId) (f : ChannelState → ChannelState) : (s.updChannel c f).clock = s.clock := rfl
@[simp] theorem State.updChannel_lamps (c : ChannelId) (f : ChannelState → ChannelState) : (s.updChannel c f).lamps = { s.lamps with channels := modifyAt s.lamps.channels c f } := rfl
@[simp] theorem State.updChannel_rotors (c : ChannelId) (f : ChannelState → ChannelState) : (s.updChannel c f).rotors = s.rotors := rfl
@[simp] theorem State.updChannel_cues (c : ChannelId) (f : ChannelState → ChannelState) : (s.updChannel c f).cues = s.cues := rfl
@[simp] theorem State.updChannel_link (c : ChannelId) (f : ChannelState → ChannelState) : (s.updChannel c f).link = s.link := rfl
@[simp] theorem State.updChannel_mgmt (c : ChannelId) (f : ChannelState → ChannelState) : (s.updChannel c f).mgmt = s.mgmt := rfl
@[simp] theorem State.updChannel_report (c : ChannelId) (f : ChannelState → ChannelState) : (s.updChannel c f).report = s.report := rfl
@[simp] theorem State.updChannel_store (c : ChannelId) (f : ChannelState → ChannelState) : (s.updChannel c f).store = s.store := rfl
@[simp] theorem State.updChannel_now (c : ChannelId) (f : ChannelState → ChannelState) : (s.updChannel c f).now = s.now := rfl
@[simp] theorem State.updChannel_pending (c : ChannelId) (f : ChannelState → ChannelState) : (s.updChannel c f).pending = s.pending := rfl

@[simp] theorem State.updRotor_tables (r : RotorId) (f : RotorRecord → RotorRecord) : (s.updRotor r f).tables = s.tables := rfl
@[simp] theorem State.updRotor_field (r : RotorId) (f : RotorRecord → RotorRecord) : (s.updRotor r f).field = s.field := rfl
@[simp] theorem State.updRotor_loop (r : RotorId) (f : RotorRecord → RotorRecord) : (s.updRotor r f).loop = s.loop := rfl
@[simp] theorem State.updRotor_counters (r : RotorId) (f : RotorRecord → RotorRecord) : (s.updRotor r f).counters = s.counters := rfl
@[simp] theorem State.updRotor_filter (r : RotorId) (f : RotorRecord → RotorRecord) : (s.updRotor r f).filter = s.filter := rfl
@[simp] theorem State.updRotor_interlock (r : RotorId) (f : RotorRecord → RotorRecord) : (s.updRotor r f).interlock = s.interlock := rfl
@[simp] theorem State.updRotor_motion (r : RotorId) (f : RotorRecord → RotorRecord) : (s.updRotor r f).motion = s.motion := rfl
@[simp] theorem State.updRotor_clock (r : RotorId) (f : RotorRecord → RotorRecord) : (s.updRotor r f).clock = s.clock := rfl
@[simp] theorem State.updRotor_lamps (r : RotorId) (f : RotorRecord → RotorRecord) : (s.updRotor r f).lamps = s.lamps := rfl
@[simp] theorem State.updRotor_rotors (r : RotorId) (f : RotorRecord → RotorRecord) : (s.updRotor r f).rotors = { s.rotors with rotors := modifyAt s.rotors.rotors r f } := rfl
@[simp] theorem State.updRotor_cues (r : RotorId) (f : RotorRecord → RotorRecord) : (s.updRotor r f).cues = s.cues := rfl
@[simp] theorem State.updRotor_link (r : RotorId) (f : RotorRecord → RotorRecord) : (s.updRotor r f).link = s.link := rfl
@[simp] theorem State.updRotor_mgmt (r : RotorId) (f : RotorRecord → RotorRecord) : (s.updRotor r f).mgmt = s.mgmt := rfl
@[simp] theorem State.updRotor_report (r : RotorId) (f : RotorRecord → RotorRecord) : (s.updRotor r f).report = s.report := rfl
@[simp] theorem State.updRotor_store (r : RotorId) (f : RotorRecord → RotorRecord) : (s.updRotor r f).store = s.store := rfl
@[simp] theorem State.updRotor_now (r : RotorId) (f : RotorRecord → RotorRecord) : (s.updRotor r f).now = s.now := rfl
@[simp] theorem State.updRotor_pending (r : RotorId) (f : RotorRecord → RotorRecord) : (s.updRotor r f).pending = s.pending := rfl

@[simp] theorem State.updCue_tables (k : CueId) (f : CueProgress → CueProgress) : (s.updCue k f).tables = s.tables := rfl
@[simp] theorem State.updCue_field (k : CueId) (f : CueProgress → CueProgress) : (s.updCue k f).field = s.field := rfl
@[simp] theorem State.updCue_loop (k : CueId) (f : CueProgress → CueProgress) : (s.updCue k f).loop = s.loop := rfl
@[simp] theorem State.updCue_counters (k : CueId) (f : CueProgress → CueProgress) : (s.updCue k f).counters = s.counters := rfl
@[simp] theorem State.updCue_filter (k : CueId) (f : CueProgress → CueProgress) : (s.updCue k f).filter = s.filter := rfl
@[simp] theorem State.updCue_interlock (k : CueId) (f : CueProgress → CueProgress) : (s.updCue k f).interlock = s.interlock := rfl
@[simp] theorem State.updCue_motion (k : CueId) (f : CueProgress → CueProgress) : (s.updCue k f).motion = s.motion := rfl
@[simp] theorem State.updCue_clock (k : CueId) (f : CueProgress → CueProgress) : (s.updCue k f).clock = s.clock := rfl
@[simp] theorem State.updCue_lamps (k : CueId) (f : CueProgress → CueProgress) : (s.updCue k f).lamps = s.lamps := rfl
@[simp] theorem State.updCue_rotors (k : CueId) (f : CueProgress → CueProgress) : (s.updCue k f).rotors = s.rotors := rfl
@[simp] theorem State.updCue_cues (k : CueId) (f : CueProgress → CueProgress) : (s.updCue k f).cues = { s.cues with progress := modifyAt s.cues.progress k f } := rfl
@[simp] theorem State.updCue_link (k : CueId) (f : CueProgress → CueProgress) : (s.updCue k f).link = s.link := rfl
@[simp] theorem State.updCue_mgmt (k : CueId) (f : CueProgress → CueProgress) : (s.updCue k f).mgmt = s.mgmt := rfl
@[simp] theorem State.updCue_report (k : CueId) (f : CueProgress → CueProgress) : (s.updCue k f).report = s.report := rfl
@[simp] theorem State.updCue_store (k : CueId) (f : CueProgress → CueProgress) : (s.updCue k f).store = s.store := rfl
@[simp] theorem State.updCue_now (k : CueId) (f : CueProgress → CueProgress) : (s.updCue k f).now = s.now := rfl
@[simp] theorem State.updCue_pending (k : CueId) (f : CueProgress → CueProgress) : (s.updCue k f).pending = s.pending := rfl

@[simp] theorem State.updSensor_tables (e : EntryId) (f : SensorState → SensorState) : (s.updSensor e f).tables = s.tables := rfl
@[simp] theorem State.updSensor_field (e : EntryId) (f : SensorState → SensorState) : (s.updSensor e f).field = s.field := rfl
@[simp] theorem State.updSensor_loop (e : EntryId) (f : SensorState → SensorState) : (s.updSensor e f).loop = s.loop := rfl
@[simp] theorem State.updSensor_counters (e : EntryId) (f : SensorState → SensorState) : (s.updSensor e f).counters = s.counters := rfl
@[simp] theorem State.updSensor_filter (e : EntryId) (f : SensorState → SensorState) : (s.updSensor e f).filter = { s.filter with entries := modifyAt s.filter.entries e f } := rfl
@[simp] theorem State.updSensor_interlock (e : EntryId) (f : SensorState → SensorState) : (s.updSensor e f).interlock = s.interlock := rfl
@[simp] theorem State.updSensor_motion (e : EntryId) (f : SensorState → SensorState) : (s.updSensor e f).motion = s.motion := rfl
@[simp] theorem State.updSensor_clock (e : EntryId) (f : SensorState → SensorState) : (s.updSensor e f).clock = s.clock := rfl
@[simp] theorem State.updSensor_lamps (e : EntryId) (f : SensorState → SensorState) : (s.updSensor e f).lamps = s.lamps := rfl
@[simp] theorem State.updSensor_rotors (e : EntryId) (f : SensorState → SensorState) : (s.updSensor e f).rotors = s.rotors := rfl
@[simp] theorem State.updSensor_cues (e : EntryId) (f : SensorState → SensorState) : (s.updSensor e f).cues = s.cues := rfl
@[simp] theorem State.updSensor_link (e : EntryId) (f : SensorState → SensorState) : (s.updSensor e f).link = s.link := rfl
@[simp] theorem State.updSensor_mgmt (e : EntryId) (f : SensorState → SensorState) : (s.updSensor e f).mgmt = s.mgmt := rfl
@[simp] theorem State.updSensor_report (e : EntryId) (f : SensorState → SensorState) : (s.updSensor e f).report = s.report := rfl
@[simp] theorem State.updSensor_store (e : EntryId) (f : SensorState → SensorState) : (s.updSensor e f).store = s.store := rfl
@[simp] theorem State.updSensor_now (e : EntryId) (f : SensorState → SensorState) : (s.updSensor e f).now = s.now := rfl
@[simp] theorem State.updSensor_pending (e : EntryId) (f : SensorState → SensorState) : (s.updSensor e f).pending = s.pending := rfl

@[simp] theorem State.updTrainEntry_tables (t : TrainId) (f : TrainEntry → TrainEntry) : (s.updTrainEntry t f).tables = { s.tables with trains := modifyAt s.tables.trains t f } := rfl
@[simp] theorem State.updTrainEntry_field (t : TrainId) (f : TrainEntry → TrainEntry) : (s.updTrainEntry t f).field = s.field := rfl
@[simp] theorem State.updTrainEntry_loop (t : TrainId) (f : TrainEntry → TrainEntry) : (s.updTrainEntry t f).loop = s.loop := rfl
@[simp] theorem State.updTrainEntry_counters (t : TrainId) (f : TrainEntry → TrainEntry) : (s.updTrainEntry t f).counters = s.counters := rfl
@[simp] theorem State.updTrainEntry_filter (t : TrainId) (f : TrainEntry → TrainEntry) : (s.updTrainEntry t f).filter = s.filter := rfl
@[simp] theorem State.updTrainEntry_interlock (t : TrainId) (f : TrainEntry → TrainEntry) : (s.updTrainEntry t f).interlock = s.interlock := rfl
@[simp] theorem State.updTrainEntry_motion (t : TrainId) (f : TrainEntry → TrainEntry) : (s.updTrainEntry t f).motion = s.motion := rfl
@[simp] theorem State.updTrainEntry_clock (t : TrainId) (f : TrainEntry → TrainEntry) : (s.updTrainEntry t f).clock = s.clock := rfl
@[simp] theorem State.updTrainEntry_lamps (t : TrainId) (f : TrainEntry → TrainEntry) : (s.updTrainEntry t f).lamps = s.lamps := rfl
@[simp] theorem State.updTrainEntry_rotors (t : TrainId) (f : TrainEntry → TrainEntry) : (s.updTrainEntry t f).rotors = s.rotors := rfl
@[simp] theorem State.updTrainEntry_cues (t : TrainId) (f : TrainEntry → TrainEntry) : (s.updTrainEntry t f).cues = s.cues := rfl
@[simp] theorem State.updTrainEntry_link (t : TrainId) (f : TrainEntry → TrainEntry) : (s.updTrainEntry t f).link = s.link := rfl
@[simp] theorem State.updTrainEntry_mgmt (t : TrainId) (f : TrainEntry → TrainEntry) : (s.updTrainEntry t f).mgmt = s.mgmt := rfl
@[simp] theorem State.updTrainEntry_report (t : TrainId) (f : TrainEntry → TrainEntry) : (s.updTrainEntry t f).report = s.report := rfl
@[simp] theorem State.updTrainEntry_store (t : TrainId) (f : TrainEntry → TrainEntry) : (s.updTrainEntry t f).store = s.store := rfl
@[simp] theorem State.updTrainEntry_now (t : TrainId) (f : TrainEntry → TrainEntry) : (s.updTrainEntry t f).now = s.now := rfl
@[simp] theorem State.updTrainEntry_pending (t : TrainId) (f : TrainEntry → TrainEntry) : (s.updTrainEntry t f).pending = s.pending := rfl

@[simp] theorem State.updLoop_tables (f : LoopMonitor → LoopMonitor) : (s.updLoop f).tables = s.tables := rfl
@[simp] theorem State.updLoop_field (f : LoopMonitor → LoopMonitor) : (s.updLoop f).field = s.field := rfl
@[simp] theorem State.updLoop_loop (f : LoopMonitor → LoopMonitor) : (s.updLoop f).loop = f s.loop := rfl
@[simp] theorem State.updLoop_counters (f : LoopMonitor → LoopMonitor) : (s.updLoop f).counters = s.counters := rfl
@[simp] theorem State.updLoop_filter (f : LoopMonitor → LoopMonitor) : (s.updLoop f).filter = s.filter := rfl
@[simp] theorem State.updLoop_interlock (f : LoopMonitor → LoopMonitor) : (s.updLoop f).interlock = s.interlock := rfl
@[simp] theorem State.updLoop_motion (f : LoopMonitor → LoopMonitor) : (s.updLoop f).motion = s.motion := rfl
@[simp] theorem State.updLoop_clock (f : LoopMonitor → LoopMonitor) : (s.updLoop f).clock = s.clock := rfl
@[simp] theorem State.updLoop_lamps (f : LoopMonitor → LoopMonitor) : (s.updLoop f).lamps = s.lamps := rfl
@[simp] theorem State.updLoop_rotors (f : LoopMonitor → LoopMonitor) : (s.updLoop f).rotors = s.rotors := rfl
@[simp] theorem State.updLoop_cues (f : LoopMonitor → LoopMonitor) : (s.updLoop f).cues = s.cues := rfl
@[simp] theorem State.updLoop_link (f : LoopMonitor → LoopMonitor) : (s.updLoop f).link = s.link := rfl
@[simp] theorem State.updLoop_mgmt (f : LoopMonitor → LoopMonitor) : (s.updLoop f).mgmt = s.mgmt := rfl
@[simp] theorem State.updLoop_report (f : LoopMonitor → LoopMonitor) : (s.updLoop f).report = s.report := rfl
@[simp] theorem State.updLoop_store (f : LoopMonitor → LoopMonitor) : (s.updLoop f).store = s.store := rfl
@[simp] theorem State.updLoop_now (f : LoopMonitor → LoopMonitor) : (s.updLoop f).now = s.now := rfl
@[simp] theorem State.updLoop_pending (f : LoopMonitor → LoopMonitor) : (s.updLoop f).pending = s.pending := rfl

@[simp] theorem State.updClock_tables (f : DayClock → DayClock) : (s.updClock f).tables = s.tables := rfl
@[simp] theorem State.updClock_field (f : DayClock → DayClock) : (s.updClock f).field = s.field := rfl
@[simp] theorem State.updClock_loop (f : DayClock → DayClock) : (s.updClock f).loop = s.loop := rfl
@[simp] theorem State.updClock_counters (f : DayClock → DayClock) : (s.updClock f).counters = s.counters := rfl
@[simp] theorem State.updClock_filter (f : DayClock → DayClock) : (s.updClock f).filter = s.filter := rfl
@[simp] theorem State.updClock_interlock (f : DayClock → DayClock) : (s.updClock f).interlock = s.interlock := rfl
@[simp] theorem State.updClock_motion (f : DayClock → DayClock) : (s.updClock f).motion = s.motion := rfl
@[simp] theorem State.updClock_clock (f : DayClock → DayClock) : (s.updClock f).clock = f s.clock := rfl
@[simp] theorem State.updClock_lamps (f : DayClock → DayClock) : (s.updClock f).lamps = s.lamps := rfl
@[simp] theorem State.updClock_rotors (f : DayClock → DayClock) : (s.updClock f).rotors = s.rotors := rfl
@[simp] theorem State.updClock_cues (f : DayClock → DayClock) : (s.updClock f).cues = s.cues := rfl
@[simp] theorem State.updClock_link (f : DayClock → DayClock) : (s.updClock f).link = s.link := rfl
@[simp] theorem State.updClock_mgmt (f : DayClock → DayClock) : (s.updClock f).mgmt = s.mgmt := rfl
@[simp] theorem State.updClock_report (f : DayClock → DayClock) : (s.updClock f).report = s.report := rfl
@[simp] theorem State.updClock_store (f : DayClock → DayClock) : (s.updClock f).store = s.store := rfl
@[simp] theorem State.updClock_now (f : DayClock → DayClock) : (s.updClock f).now = s.now := rfl
@[simp] theorem State.updClock_pending (f : DayClock → DayClock) : (s.updClock f).pending = s.pending := rfl

@[simp] theorem State.setTables_tables (f : Tables → Tables) : (s.setTables f).tables = f s.tables := rfl
@[simp] theorem State.setTables_field (f : Tables → Tables) : (s.setTables f).field = s.field := rfl
@[simp] theorem State.setTables_loop (f : Tables → Tables) : (s.setTables f).loop = s.loop := rfl
@[simp] theorem State.setTables_counters (f : Tables → Tables) : (s.setTables f).counters = s.counters := rfl
@[simp] theorem State.setTables_filter (f : Tables → Tables) : (s.setTables f).filter = s.filter := rfl
@[simp] theorem State.setTables_interlock (f : Tables → Tables) : (s.setTables f).interlock = s.interlock := rfl
@[simp] theorem State.setTables_motion (f : Tables → Tables) : (s.setTables f).motion = s.motion := rfl
@[simp] theorem State.setTables_clock (f : Tables → Tables) : (s.setTables f).clock = s.clock := rfl
@[simp] theorem State.setTables_lamps (f : Tables → Tables) : (s.setTables f).lamps = s.lamps := rfl
@[simp] theorem State.setTables_rotors (f : Tables → Tables) : (s.setTables f).rotors = s.rotors := rfl
@[simp] theorem State.setTables_cues (f : Tables → Tables) : (s.setTables f).cues = s.cues := rfl
@[simp] theorem State.setTables_link (f : Tables → Tables) : (s.setTables f).link = s.link := rfl
@[simp] theorem State.setTables_mgmt (f : Tables → Tables) : (s.setTables f).mgmt = s.mgmt := rfl
@[simp] theorem State.setTables_report (f : Tables → Tables) : (s.setTables f).report = s.report := rfl
@[simp] theorem State.setTables_store (f : Tables → Tables) : (s.setTables f).store = s.store := rfl
@[simp] theorem State.setTables_now (f : Tables → Tables) : (s.setTables f).now = s.now := rfl
@[simp] theorem State.setTables_pending (f : Tables → Tables) : (s.setTables f).pending = s.pending := rfl

@[simp] theorem State.mapChannels_tables (f : ChannelId → ChannelState → ChannelState) : (s.mapChannels f).tables = s.tables := rfl
@[simp] theorem State.mapChannels_field (f : ChannelId → ChannelState → ChannelState) : (s.mapChannels f).field = s.field := rfl
@[simp] theorem State.mapChannels_loop (f : ChannelId → ChannelState → ChannelState) : (s.mapChannels f).loop = s.loop := rfl
@[simp] theorem State.mapChannels_counters (f : ChannelId → ChannelState → ChannelState) : (s.mapChannels f).counters = s.counters := rfl
@[simp] theorem State.mapChannels_filter (f : ChannelId → ChannelState → ChannelState) : (s.mapChannels f).filter = s.filter := rfl
@[simp] theorem State.mapChannels_interlock (f : ChannelId → ChannelState → ChannelState) : (s.mapChannels f).interlock = s.interlock := rfl
@[simp] theorem State.mapChannels_motion (f : ChannelId → ChannelState → ChannelState) : (s.mapChannels f).motion = s.motion := rfl
@[simp] theorem State.mapChannels_clock (f : ChannelId → ChannelState → ChannelState) : (s.mapChannels f).clock = s.clock := rfl
@[simp] theorem State.mapChannels_rotors (f : ChannelId → ChannelState → ChannelState) : (s.mapChannels f).rotors = s.rotors := rfl
@[simp] theorem State.mapChannels_cues (f : ChannelId → ChannelState → ChannelState) : (s.mapChannels f).cues = s.cues := rfl
@[simp] theorem State.mapChannels_link (f : ChannelId → ChannelState → ChannelState) : (s.mapChannels f).link = s.link := rfl
@[simp] theorem State.mapChannels_mgmt (f : ChannelId → ChannelState → ChannelState) : (s.mapChannels f).mgmt = s.mgmt := rfl
@[simp] theorem State.mapChannels_report (f : ChannelId → ChannelState → ChannelState) : (s.mapChannels f).report = s.report := rfl
@[simp] theorem State.mapChannels_store (f : ChannelId → ChannelState → ChannelState) : (s.mapChannels f).store = s.store := rfl
@[simp] theorem State.mapChannels_now (f : ChannelId → ChannelState → ChannelState) : (s.mapChannels f).now = s.now := rfl
@[simp] theorem State.mapChannels_pending (f : ChannelId → ChannelState → ChannelState) : (s.mapChannels f).pending = s.pending := rfl

@[simp] theorem State.countFIn_tables (f : PortTotals → PortTotals) : (s.countFIn f).tables = s.tables := rfl
@[simp] theorem State.countFIn_field (f : PortTotals → PortTotals) : (s.countFIn f).field = s.field := rfl
@[simp] theorem State.countFIn_loop (f : PortTotals → PortTotals) : (s.countFIn f).loop = s.loop := rfl
@[simp] theorem State.countFIn_counters (f : PortTotals → PortTotals) : (s.countFIn f).counters = { s.counters with fIn := f s.counters.fIn } := rfl
@[simp] theorem State.countFIn_filter (f : PortTotals → PortTotals) : (s.countFIn f).filter = s.filter := rfl
@[simp] theorem State.countFIn_interlock (f : PortTotals → PortTotals) : (s.countFIn f).interlock = s.interlock := rfl
@[simp] theorem State.countFIn_motion (f : PortTotals → PortTotals) : (s.countFIn f).motion = s.motion := rfl
@[simp] theorem State.countFIn_clock (f : PortTotals → PortTotals) : (s.countFIn f).clock = s.clock := rfl
@[simp] theorem State.countFIn_lamps (f : PortTotals → PortTotals) : (s.countFIn f).lamps = s.lamps := rfl
@[simp] theorem State.countFIn_rotors (f : PortTotals → PortTotals) : (s.countFIn f).rotors = s.rotors := rfl
@[simp] theorem State.countFIn_cues (f : PortTotals → PortTotals) : (s.countFIn f).cues = s.cues := rfl
@[simp] theorem State.countFIn_link (f : PortTotals → PortTotals) : (s.countFIn f).link = s.link := rfl
@[simp] theorem State.countFIn_mgmt (f : PortTotals → PortTotals) : (s.countFIn f).mgmt = s.mgmt := rfl
@[simp] theorem State.countFIn_report (f : PortTotals → PortTotals) : (s.countFIn f).report = s.report := rfl
@[simp] theorem State.countFIn_store (f : PortTotals → PortTotals) : (s.countFIn f).store = s.store := rfl
@[simp] theorem State.countFIn_now (f : PortTotals → PortTotals) : (s.countFIn f).now = s.now := rfl
@[simp] theorem State.countFIn_pending (f : PortTotals → PortTotals) : (s.countFIn f).pending = s.pending := rfl

@[simp] theorem State.countSIn_tables (f : PortTotals → PortTotals) : (s.countSIn f).tables = s.tables := rfl
@[simp] theorem State.countSIn_field (f : PortTotals → PortTotals) : (s.countSIn f).field = s.field := rfl
@[simp] theorem State.countSIn_loop (f : PortTotals → PortTotals) : (s.countSIn f).loop = s.loop := rfl
@[simp] theorem State.countSIn_counters (f : PortTotals → PortTotals) : (s.countSIn f).counters = { s.counters with sIn := f s.counters.sIn } := rfl
@[simp] theorem State.countSIn_filter (f : PortTotals → PortTotals) : (s.countSIn f).filter = s.filter := rfl
@[simp] theorem State.countSIn_interlock (f : PortTotals → PortTotals) : (s.countSIn f).interlock = s.interlock := rfl
@[simp] theorem State.countSIn_motion (f : PortTotals → PortTotals) : (s.countSIn f).motion = s.motion := rfl
@[simp] theorem State.countSIn_clock (f : PortTotals → PortTotals) : (s.countSIn f).clock = s.clock := rfl
@[simp] theorem State.countSIn_lamps (f : PortTotals → PortTotals) : (s.countSIn f).lamps = s.lamps := rfl
@[simp] theorem State.countSIn_rotors (f : PortTotals → PortTotals) : (s.countSIn f).rotors = s.rotors := rfl
@[simp] theorem State.countSIn_cues (f : PortTotals → PortTotals) : (s.countSIn f).cues = s.cues := rfl
@[simp] theorem State.countSIn_link (f : PortTotals → PortTotals) : (s.countSIn f).link = s.link := rfl
@[simp] theorem State.countSIn_mgmt (f : PortTotals → PortTotals) : (s.countSIn f).mgmt = s.mgmt := rfl
@[simp] theorem State.countSIn_report (f : PortTotals → PortTotals) : (s.countSIn f).report = s.report := rfl
@[simp] theorem State.countSIn_store (f : PortTotals → PortTotals) : (s.countSIn f).store = s.store := rfl
@[simp] theorem State.countSIn_now (f : PortTotals → PortTotals) : (s.countSIn f).now = s.now := rfl
@[simp] theorem State.countSIn_pending (f : PortTotals → PortTotals) : (s.countSIn f).pending = s.pending := rfl

@[simp] theorem State.dropFIn_tables (r : FInDrop) : (s.dropFIn r).tables = s.tables := rfl
@[simp] theorem State.dropFIn_field (r : FInDrop) : (s.dropFIn r).field = s.field := rfl
@[simp] theorem State.dropFIn_loop (r : FInDrop) : (s.dropFIn r).loop = s.loop := rfl
@[simp] theorem State.dropFIn_counters (r : FInDrop) : (s.dropFIn r).counters = { s.counters with fIn := s.counters.fIn.addDropped, fInDrops := modifyAt s.counters.fInDrops r.index (· + 1) } := rfl
@[simp] theorem State.dropFIn_filter (r : FInDrop) : (s.dropFIn r).filter = s.filter := rfl
@[simp] theorem State.dropFIn_interlock (r : FInDrop) : (s.dropFIn r).interlock = s.interlock := rfl
@[simp] theorem State.dropFIn_motion (r : FInDrop) : (s.dropFIn r).motion = s.motion := rfl
@[simp] theorem State.dropFIn_clock (r : FInDrop) : (s.dropFIn r).clock = s.clock := rfl
@[simp] theorem State.dropFIn_lamps (r : FInDrop) : (s.dropFIn r).lamps = s.lamps := rfl
@[simp] theorem State.dropFIn_rotors (r : FInDrop) : (s.dropFIn r).rotors = s.rotors := rfl
@[simp] theorem State.dropFIn_cues (r : FInDrop) : (s.dropFIn r).cues = s.cues := rfl
@[simp] theorem State.dropFIn_link (r : FInDrop) : (s.dropFIn r).link = s.link := rfl
@[simp] theorem State.dropFIn_mgmt (r : FInDrop) : (s.dropFIn r).mgmt = s.mgmt := rfl
@[simp] theorem State.dropFIn_report (r : FInDrop) : (s.dropFIn r).report = s.report := rfl
@[simp] theorem State.dropFIn_store (r : FInDrop) : (s.dropFIn r).store = s.store := rfl
@[simp] theorem State.dropFIn_now (r : FInDrop) : (s.dropFIn r).now = s.now := rfl
@[simp] theorem State.dropFIn_pending (r : FInDrop) : (s.dropFIn r).pending = s.pending := rfl

@[simp] theorem State.dropSIn_tables (r : SInDrop) : (s.dropSIn r).tables = s.tables := rfl
@[simp] theorem State.dropSIn_field (r : SInDrop) : (s.dropSIn r).field = s.field := rfl
@[simp] theorem State.dropSIn_loop (r : SInDrop) : (s.dropSIn r).loop = s.loop := rfl
@[simp] theorem State.dropSIn_counters (r : SInDrop) : (s.dropSIn r).counters = { s.counters with sIn := s.counters.sIn.addDropped, sInDrops := modifyAt s.counters.sInDrops r.index (· + 1) } := rfl
@[simp] theorem State.dropSIn_filter (r : SInDrop) : (s.dropSIn r).filter = s.filter := rfl
@[simp] theorem State.dropSIn_interlock (r : SInDrop) : (s.dropSIn r).interlock = s.interlock := rfl
@[simp] theorem State.dropSIn_motion (r : SInDrop) : (s.dropSIn r).motion = s.motion := rfl
@[simp] theorem State.dropSIn_clock (r : SInDrop) : (s.dropSIn r).clock = s.clock := rfl
@[simp] theorem State.dropSIn_lamps (r : SInDrop) : (s.dropSIn r).lamps = s.lamps := rfl
@[simp] theorem State.dropSIn_rotors (r : SInDrop) : (s.dropSIn r).rotors = s.rotors := rfl
@[simp] theorem State.dropSIn_cues (r : SInDrop) : (s.dropSIn r).cues = s.cues := rfl
@[simp] theorem State.dropSIn_link (r : SInDrop) : (s.dropSIn r).link = s.link := rfl
@[simp] theorem State.dropSIn_mgmt (r : SInDrop) : (s.dropSIn r).mgmt = s.mgmt := rfl
@[simp] theorem State.dropSIn_report (r : SInDrop) : (s.dropSIn r).report = s.report := rfl
@[simp] theorem State.dropSIn_store (r : SInDrop) : (s.dropSIn r).store = s.store := rfl
@[simp] theorem State.dropSIn_now (r : SInDrop) : (s.dropSIn r).now = s.now := rfl
@[simp] theorem State.dropSIn_pending (r : SInDrop) : (s.dropSIn r).pending = s.pending := rfl

@[simp] theorem State.countFOut_tables (f : FOutCounters → FOutCounters) : (s.countFOut f).tables = s.tables := rfl
@[simp] theorem State.countFOut_field (f : FOutCounters → FOutCounters) : (s.countFOut f).field = s.field := rfl
@[simp] theorem State.countFOut_loop (f : FOutCounters → FOutCounters) : (s.countFOut f).loop = s.loop := rfl
@[simp] theorem State.countFOut_counters (f : FOutCounters → FOutCounters) : (s.countFOut f).counters = { s.counters with fOut := f s.counters.fOut } := rfl
@[simp] theorem State.countFOut_filter (f : FOutCounters → FOutCounters) : (s.countFOut f).filter = s.filter := rfl
@[simp] theorem State.countFOut_interlock (f : FOutCounters → FOutCounters) : (s.countFOut f).interlock = s.interlock := rfl
@[simp] theorem State.countFOut_motion (f : FOutCounters → FOutCounters) : (s.countFOut f).motion = s.motion := rfl
@[simp] theorem State.countFOut_clock (f : FOutCounters → FOutCounters) : (s.countFOut f).clock = s.clock := rfl
@[simp] theorem State.countFOut_lamps (f : FOutCounters → FOutCounters) : (s.countFOut f).lamps = s.lamps := rfl
@[simp] theorem State.countFOut_rotors (f : FOutCounters → FOutCounters) : (s.countFOut f).rotors = s.rotors := rfl
@[simp] theorem State.countFOut_cues (f : FOutCounters → FOutCounters) : (s.countFOut f).cues = s.cues := rfl
@[simp] theorem State.countFOut_link (f : FOutCounters → FOutCounters) : (s.countFOut f).link = s.link := rfl
@[simp] theorem State.countFOut_mgmt (f : FOutCounters → FOutCounters) : (s.countFOut f).mgmt = s.mgmt := rfl
@[simp] theorem State.countFOut_report (f : FOutCounters → FOutCounters) : (s.countFOut f).report = s.report := rfl
@[simp] theorem State.countFOut_store (f : FOutCounters → FOutCounters) : (s.countFOut f).store = s.store := rfl
@[simp] theorem State.countFOut_now (f : FOutCounters → FOutCounters) : (s.countFOut f).now = s.now := rfl
@[simp] theorem State.countFOut_pending (f : FOutCounters → FOutCounters) : (s.countFOut f).pending = s.pending := rfl

@[simp] theorem State.countSOut_tables (f : SOutCounters → SOutCounters) : (s.countSOut f).tables = s.tables := rfl
@[simp] theorem State.countSOut_field (f : SOutCounters → SOutCounters) : (s.countSOut f).field = s.field := rfl
@[simp] theorem State.countSOut_loop (f : SOutCounters → SOutCounters) : (s.countSOut f).loop = s.loop := rfl
@[simp] theorem State.countSOut_counters (f : SOutCounters → SOutCounters) : (s.countSOut f).counters = { s.counters with sOut := f s.counters.sOut } := rfl
@[simp] theorem State.countSOut_filter (f : SOutCounters → SOutCounters) : (s.countSOut f).filter = s.filter := rfl
@[simp] theorem State.countSOut_interlock (f : SOutCounters → SOutCounters) : (s.countSOut f).interlock = s.interlock := rfl
@[simp] theorem State.countSOut_motion (f : SOutCounters → SOutCounters) : (s.countSOut f).motion = s.motion := rfl
@[simp] theorem State.countSOut_clock (f : SOutCounters → SOutCounters) : (s.countSOut f).clock = s.clock := rfl
@[simp] theorem State.countSOut_lamps (f : SOutCounters → SOutCounters) : (s.countSOut f).lamps = s.lamps := rfl
@[simp] theorem State.countSOut_rotors (f : SOutCounters → SOutCounters) : (s.countSOut f).rotors = s.rotors := rfl
@[simp] theorem State.countSOut_cues (f : SOutCounters → SOutCounters) : (s.countSOut f).cues = s.cues := rfl
@[simp] theorem State.countSOut_link (f : SOutCounters → SOutCounters) : (s.countSOut f).link = s.link := rfl
@[simp] theorem State.countSOut_mgmt (f : SOutCounters → SOutCounters) : (s.countSOut f).mgmt = s.mgmt := rfl
@[simp] theorem State.countSOut_report (f : SOutCounters → SOutCounters) : (s.countSOut f).report = s.report := rfl
@[simp] theorem State.countSOut_store (f : SOutCounters → SOutCounters) : (s.countSOut f).store = s.store := rfl
@[simp] theorem State.countSOut_now (f : SOutCounters → SOutCounters) : (s.countSOut f).now = s.now := rfl
@[simp] theorem State.countSOut_pending (f : SOutCounters → SOutCounters) : (s.countSOut f).pending = s.pending := rfl

@[simp] theorem State.countBlock_tables (f : BlockCounters → BlockCounters) : (s.countBlock f).tables = s.tables := rfl
@[simp] theorem State.countBlock_field (f : BlockCounters → BlockCounters) : (s.countBlock f).field = s.field := rfl
@[simp] theorem State.countBlock_loop (f : BlockCounters → BlockCounters) : (s.countBlock f).loop = s.loop := rfl
@[simp] theorem State.countBlock_counters (f : BlockCounters → BlockCounters) : (s.countBlock f).counters = { s.counters with block := f s.counters.block } := rfl
@[simp] theorem State.countBlock_filter (f : BlockCounters → BlockCounters) : (s.countBlock f).filter = s.filter := rfl
@[simp] theorem State.countBlock_interlock (f : BlockCounters → BlockCounters) : (s.countBlock f).interlock = s.interlock := rfl
@[simp] theorem State.countBlock_motion (f : BlockCounters → BlockCounters) : (s.countBlock f).motion = s.motion := rfl
@[simp] theorem State.countBlock_clock (f : BlockCounters → BlockCounters) : (s.countBlock f).clock = s.clock := rfl
@[simp] theorem State.countBlock_lamps (f : BlockCounters → BlockCounters) : (s.countBlock f).lamps = s.lamps := rfl
@[simp] theorem State.countBlock_rotors (f : BlockCounters → BlockCounters) : (s.countBlock f).rotors = s.rotors := rfl
@[simp] theorem State.countBlock_cues (f : BlockCounters → BlockCounters) : (s.countBlock f).cues = s.cues := rfl
@[simp] theorem State.countBlock_link (f : BlockCounters → BlockCounters) : (s.countBlock f).link = s.link := rfl
@[simp] theorem State.countBlock_mgmt (f : BlockCounters → BlockCounters) : (s.countBlock f).mgmt = s.mgmt := rfl
@[simp] theorem State.countBlock_report (f : BlockCounters → BlockCounters) : (s.countBlock f).report = s.report := rfl
@[simp] theorem State.countBlock_store (f : BlockCounters → BlockCounters) : (s.countBlock f).store = s.store := rfl
@[simp] theorem State.countBlock_now (f : BlockCounters → BlockCounters) : (s.countBlock f).now = s.now := rfl
@[simp] theorem State.countBlock_pending (f : BlockCounters → BlockCounters) : (s.countBlock f).pending = s.pending := rfl

@[simp] theorem State.countPurged_tables (n : Nat) : (s.countPurged n).tables = s.tables := rfl
@[simp] theorem State.countPurged_field (n : Nat) : (s.countPurged n).field = s.field := rfl
@[simp] theorem State.countPurged_loop (n : Nat) : (s.countPurged n).loop = s.loop := rfl
@[simp] theorem State.countPurged_filter (n : Nat) : (s.countPurged n).filter = s.filter := rfl
@[simp] theorem State.countPurged_interlock (n : Nat) : (s.countPurged n).interlock = s.interlock := rfl
@[simp] theorem State.countPurged_motion (n : Nat) : (s.countPurged n).motion = s.motion := rfl
@[simp] theorem State.countPurged_clock (n : Nat) : (s.countPurged n).clock = s.clock := rfl
@[simp] theorem State.countPurged_lamps (n : Nat) : (s.countPurged n).lamps = s.lamps := rfl
@[simp] theorem State.countPurged_rotors (n : Nat) : (s.countPurged n).rotors = s.rotors := rfl
@[simp] theorem State.countPurged_cues (n : Nat) : (s.countPurged n).cues = s.cues := rfl
@[simp] theorem State.countPurged_link (n : Nat) : (s.countPurged n).link = s.link := rfl
@[simp] theorem State.countPurged_mgmt (n : Nat) : (s.countPurged n).mgmt = s.mgmt := rfl
@[simp] theorem State.countPurged_report (n : Nat) : (s.countPurged n).report = s.report := rfl
@[simp] theorem State.countPurged_store (n : Nat) : (s.countPurged n).store = s.store := rfl
@[simp] theorem State.countPurged_now (n : Nat) : (s.countPurged n).now = s.now := rfl
@[simp] theorem State.countPurged_pending (n : Nat) : (s.countPurged n).pending = s.pending := rfl

@[simp] theorem State.withCommand_tables (c : Instr) : (s.withCommand c).tables = s.tables := rfl
@[simp] theorem State.withCommand_field (c : Instr) : (s.withCommand c).field = s.field := rfl
@[simp] theorem State.withCommand_loop (c : Instr) : (s.withCommand c).loop = s.loop := rfl
@[simp] theorem State.withCommand_counters (c : Instr) : (s.withCommand c).counters = s.counters := rfl
@[simp] theorem State.withCommand_filter (c : Instr) : (s.withCommand c).filter = s.filter := rfl
@[simp] theorem State.withCommand_interlock (c : Instr) : (s.withCommand c).interlock = s.interlock := rfl
@[simp] theorem State.withCommand_motion (c : Instr) : (s.withCommand c).motion = s.motion := rfl
@[simp] theorem State.withCommand_clock (c : Instr) : (s.withCommand c).clock = s.clock := rfl
@[simp] theorem State.withCommand_lamps (c : Instr) : (s.withCommand c).lamps = s.lamps := rfl
@[simp] theorem State.withCommand_rotors (c : Instr) : (s.withCommand c).rotors = s.rotors := rfl
@[simp] theorem State.withCommand_cues (c : Instr) : (s.withCommand c).cues = s.cues := rfl
@[simp] theorem State.withCommand_link (c : Instr) : (s.withCommand c).link = s.link := rfl
@[simp] theorem State.withCommand_mgmt (c : Instr) : (s.withCommand c).mgmt = s.mgmt := rfl
@[simp] theorem State.withCommand_report (c : Instr) : (s.withCommand c).report = s.report := rfl
@[simp] theorem State.withCommand_store (c : Instr) : (s.withCommand c).store = s.store := rfl
@[simp] theorem State.withCommand_now (c : Instr) : (s.withCommand c).now = s.now := rfl
@[simp] theorem State.withCommand_pending (c : Instr) : (s.withCommand c).pending = c :: s.pending := rfl

/-! ## Records after an update of their own kind -/

@[simp] theorem State.block_updBlock (i j : BlockId) (f : BlockState → BlockState) :
    (s.updBlock i f).block j = if i = j then f (s.block i) else s.block j := modifyAt_get _ i j f

@[simp] theorem State.turnout_updTurnout (i j : TurnoutId) (f : TurnoutState → TurnoutState) :
    (s.updTurnout i f).turnout j = if i = j then f (s.turnout i) else s.turnout j := modifyAt_get _ i j f

@[simp] theorem State.path_updPath (i j : TrainId) (f : TrainPath → TrainPath) :
    (s.updPath i f).path j = if i = j then f (s.path i) else s.path j := modifyAt_get _ i j f

@[simp] theorem State.train_updTrain (i j : TrainId) (f : TrainRecord → TrainRecord) :
    (s.updTrain i f).train j = if i = j then f (s.train i) else s.train j := modifyAt_get _ i j f

@[simp] theorem State.channel_updChannel (i j : ChannelId) (f : ChannelState → ChannelState) :
    (s.updChannel i f).channel j = if i = j then f (s.channel i) else s.channel j := modifyAt_get _ i j f

@[simp] theorem State.rotor_updRotor (i j : RotorId) (f : RotorRecord → RotorRecord) :
    (s.updRotor i f).rotor j = if i = j then f (s.rotor i) else s.rotor j := modifyAt_get _ i j f

@[simp] theorem State.cue_updCue (i j : CueId) (f : CueProgress → CueProgress) :
    (s.updCue i f).cue j = if i = j then f (s.cue i) else s.cue j := modifyAt_get _ i j f

@[simp] theorem State.sensor_updSensor (i j : EntryId) (f : SensorState → SensorState) :
    (s.updSensor i f).sensor j = if i = j then f (s.sensor i) else s.sensor j := modifyAt_get _ i j f

@[simp] theorem State.trainEntry_updTrainEntry (i j : TrainId) (f : TrainEntry → TrainEntry) :
    (s.updTrainEntry i f).trainEntry j = if i = j then f (s.trainEntry i) else s.trainEntry j := modifyAt_get _ i j f

end Sys2Proof.Machine
end

