-- ==== Sys2Proof/Tests/Slice0.lean ====
section
/-!
SUPPORT. Small tests on one step or one operation, with results from the manual's worked figures or counted by hand from its tables, the
smoke tests of `Instr.wellFormed`, and for each statement of Obligations.lean that has hypotheses a witness that meets them.
-/

namespace Sys2Proof.Tests

open Sys2Proof Sys2Proof.Machine

/-! ## A small railway and its states -/

/-- Blocks 0 to 3 on a line, block 2 a crossing; turnout 0 in block 1 and turnout 1 with feedback in block 3; route 0 from block 0 over blocks 1
and 2; train 0 AUTO and train 1 GUIDED; sensors for block 0, a button and the index of rotor 0; three lamps at node 40; one rotor; two cues. -/
def layout : Tables :=
  { defaultTables with
    blocks := (((defaultTables.blocks.set 0 { defaultBlock with enabled := true }).set 1 { defaultBlock with enabled := true }).set 2
      { defaultBlock with enabled := true, crossing := true, warnTime := 200 }).set 3 { defaultBlock with enabled := true }
    turnouts := (defaultTables.turnouts.set 0 { defaultTurnout with enabled := true, node := 20, block := 1 }).set 1
      { defaultTurnout with enabled := true, feedback := true, node := 20, channel := 1, block := 3 }
    routes := defaultTables.routes.set 0
      { enabled := true, start := 0, cruise := 20, blocks := [1, 2], turnouts := [(0, .reverse)] }
    trains := (defaultTables.trains.set 0 { defaultTrain with enabled := true, node := 30 }).set 1
      { defaultTrain with enabled := true, node := 30, channel := 1, mode := .guided, guideTimeout := 100 }
    sensors := ((defaultTables.sensors.set 0 { defaultSensor with enabled := true, node := 10 }).set 1
      { defaultSensor with enabled := true, node := 10, input := 1, function := .button }).set 2
      { defaultSensor with enabled := true, node := 10, input := 2, function := .index 0 }
    patch := ((defaultTables.patch.set 0
        { defaultPatch with mapped := true, node := 40, ownership := .engine, kind := .street 400 450 1500, onValue := 200 }).set 1
        { defaultPatch with mapped := true, node := 40, nodeChannel := 1, ownership := .merge, ceiling := 240 }).set 2
      { defaultPatch with mapped := true, node := 40, nodeChannel := 2 }
    clock := { defaultClock with ambientNode := 60 }
    rotors := defaultTables.rotors.set 0 { defaultRotor with enabled := true, node := 50, maxStep := 60, creepStep := 10, indexEntry := 2 }
    cues := (defaultTables.cues.set 0 { defaultCue with enabled := true, triggerA := .button 1 }).set 1
      { defaultCue with enabled := true, mode := .bothWithin, triggerB := some (.cueFired 0) } }

/-- The part in HOLD after its start, the ring DOWN. -/
def held : State :=
  { State.reset with
    tables := layout
    motion := MotionEngine.initial layout
    cues := CueEngine.initial layout
    mgmt := { mode := .hold, intake := [] }
    store := { State.reset.store with loading := none } }

/-- In RUN on a QUALIFIED ring, train 0 STOPPED in block 0, which is detected OCCUPIED. -/
def town : State :=
  (({ held with
      mgmt := { mode := .run, intake := [] }
      loop := { LoopMonitor.initial with state := .qualified, errorCount := 7, watchdog := some 100 } }.updTrain 0 fun r =>
    { r with condition := .stopped, armed := false }).updPath 0 fun p => { p with occupied := [0] }).updBlock 0 fun b =>
    { b with holding := some (0, .occupied), detection := .occupied }

/-- `town` in HOLD. -/
def yard : State := { town with mgmt := { mode := .hold, intake := [] } }

/-- `town` with the ring DOWN. -/
def silent : State := { town with loop := LoopMonitor.initial }

/-- `town` with every block detected CLEAR. -/
def clearTown : State :=
  { town with interlock := { town.interlock with blocks := tabulate fun b => { town.interlock.blocks[b] with detection := .clear } } }

/-- Train 0 RUNNING over the blocks `occupied` with `reserved` before it, turnout 0 locked by it. -/
def onward (occupied reserved : List BlockId) (authorised : Nat) : State :=
  let s := { town with interlock := { town.interlock with
    paths := town.interlock.paths.set 0 { occupied, reserved, authorised }
    blocks := tabulate fun b =>
      if b ∈ occupied then { BlockState.initial with holding := some (0, .occupied), detection := .occupied }
      else if b ∈ reserved then { BlockState.initial with holding := some (0, .reserved), detection := .clear }
      else BlockState.initial } }
  (s.updTrain 0 fun r => { r with condition := .running, step := 20, target := 20, permitted := 20 }).updTurnout 0 fun x =>
    { x with condition := .set, position := some .reverse, commanded := some .reverse, lock := some 0 }

/-- `s` with one sensor entry, entry 0 at node 10, of the function `f`. -/
def watched (f : SensorFunction) (s : State) : State :=
  { s with tables := { s.tables with sensors := defaultTables.sensors.set 0 { defaultSensor with enabled := true, node := 10, function := f } } }

/-- A REPLY or four in the Upstream Queue. -/
def withReplies (n : Nat) (s : State) : State := { s with link := { s.link with upstream := List.replicate n (replyFrame 1 .ok []) } }

theorem held_ready : held.ready := ⟨rfl, by decide, by decide, ⟨rfl, by decide⟩, by unfold State.stillTrainsStand; decide⟩
theorem town_ready : town.ready := ⟨rfl, by decide, by decide, ⟨rfl, by decide⟩, by unfold State.stillTrainsStand; decide⟩
theorem yard_ready : yard.ready := ⟨rfl, by decide, by decide, ⟨rfl, by decide⟩, by unfold State.stillTrainsStand; decide⟩
theorem town_holdersAgree : town.holdersAgree := by unfold State.holdersAgree; decide
theorem town_listsFit : town.listsFit := by unfold State.listsFit; decide
theorem town_claimsLocated : town.claimsLocated := by unfold State.claimsLocated; decide
theorem town_authorityAgrees : town.authorityAgrees := by unfold State.authorityAgrees; decide
theorem town_routesSound : town.routesSound :=
  ⟨by unfold Tables.routesSound; decide, by unfold Tables.routesSound; decide, fun _ h => nomatch h⟩
theorem town_trackSafe : town.trackSafe :=
  ⟨town_holdersAgree, town_listsFit, town_claimsLocated, town_authorityAgrees, town_routesSound⟩

theorem onward_trackSafe : (onward [0] [1, 2] 1).trackSafe ∧ (onward [1, 0] [] 0).trackSafe :=
  ⟨⟨by unfold State.holdersAgree; decide +kernel, by unfold State.listsFit; decide, by unfold State.claimsLocated; decide,
      by unfold State.authorityAgrees; decide, town_routesSound⟩,
    by unfold State.holdersAgree; decide +kernel, by unfold State.listsFit; decide, by unfold State.claimsLocated; decide,
      by unfold State.authorityAgrees; decide, town_routesSound⟩

/-! ## Well-formed commands -/

/-- Each check of `Instr.wellFormed` refuses a term that breaks it and nothing else. -/
theorem test_wellFormed_refuses_long_payload :
    (Instr.echoReceived (List.replicate 49 0)).wellFormed = false ∧ (Instr.echoReceived (List.replicate 48 0)).wellFormed = true := by decide

theorem test_wellFormed_refuses_node_0_and_97 :
    (Instr.senseReceived 0 []).wellFormed = false ∧ (Instr.senseReceived 97 []).wellFormed = false
      ∧ (Instr.senseReceived 1 []).wellFormed = true ∧ (Instr.lightcountReceived 97 []).wellFormed = false
      ∧ (Instr.nodeFaultReceived 0 []).wellFormed = false ∧ (Instr.unclaimedFrame 97 kindDrive []).wellFormed = false
      ∧ (Instr.unclaimedFrame 96 kindDrive []).wellFormed = true := by decide

theorem test_wellFormed_refuses_unclaimed_echo : (Instr.unclaimedFrame 1 kindEcho []).wellFormed = false := by decide

theorem test_wellFormed_refuses_host_frame_not_for_the_field :
    (Instr.hostDrive 0 []).wellFormed = false ∧ (Instr.hostSwitch 97 []).wellFormed = false ∧ (Instr.hostRotor 126 []).wellFormed = false
      ∧ (Instr.hostLevel 0 []).wellFormed = false ∧ (Instr.hostAllstop 126 []).wellFormed = false
      ∧ (Instr.hostSenseRequest 0 []).wellFormed = false ∧ (Instr.hostLevel 127 []).wellFormed = true := by decide

theorem test_wellFormed_refuses_known_kind_as_unknown :
    (Instr.hostUnknownKindFrame 1 kindDrive []).wellFormed = false ∧ (Instr.hostUnknownKindFrame 1 0x33 []).wellFormed = true := by decide

theorem test_wellFormed_refuses_request_as_unknown :
    (Instr.unknownRequest [0, 1]).wellFormed = false ∧ (Instr.unknownRequest [0, 35]).wellFormed = true
      ∧ (Instr.unknownRequest [0, 1, 0]).wellFormed = true ∧ (Instr.unknownRequest [0]).wellFormed = true := by decide

theorem test_wellFormed_refuses_request_too_long :
    (Instr.writeTable 0 0 0 (List.replicate 45 0)).wellFormed = false ∧ (Instr.writeTable 0 0 0 (List.replicate 44 0)).wellFormed = true
      ∧ (Instr.locate 0 0 (List.replicate 46 0)).wellFormed = false := by decide

/-! ## Worked figures of the manual -/

/-- R178: the check value of the CRC for the characters 0x31 to 0x39. -/
theorem test_crc_check_value : crc [0x31, 0x32, 0x33, 0x34, 0x35, 0x36, 0x37, 0x38, 0x39] = 0x29B1 := by decide +kernel

/-- The request code, table number and fields of a WRITE TABLE of one Block Table entry, read from Tables 11-3 and 11-6. -/
theorem test_block_entry_bytes :
    BlockEntry.decode [0x03, 0x04, 0xB0, 90, 0x00, 0xC8]
      = some { enabled := true, crossing := true, length := 1200, speedCap := 90, warnTime := 200 } := by decide

/-- Table 11-9 with Table 6-2: a STREET channel, MERGE, at lamp node 40, node channel 1. -/
theorem test_patch_entry_bytes :
    PatchEntry.decode [0x05, 40, 1, 1, 0x01, 0x90, 0x01, 0xC2, 0x05, 0xDC, 200, 240, 8, 64]
      = some { mapped := true, node := 40, nodeChannel := 1, ownership := .merge, kind := .street 400 450 1500, onValue := 200,
               ceiling := 240, fadeStep := 8, ambientWeight := 64 } := by decide

/-- Table 5-6. -/
def skyCurve : List (Nat × Nat) := [(30, 40), (360, 150), (480, 900), (1080, 800), (1140, 100), (1320, 60)]

theorem test_sky_levels_of_table_5_6 :
    [66960, 68399, 68400, 26130, 10800, 85500, 900].map (skyLevel skyCurve) = [380, 101, 100, 621, 90, 46, 42] := by decide

/-- Table 5-7. -/
theorem test_ambient_levels_of_table_5_7 :
    [1500, 3000, 5, 8000].map (ambientLevel [(500, 100), (2000, 700), (6000, 1000)]) = [500, 775, 100, 1000]
      ∧ smoothAmbient 420 500 = 430 ∧ smoothAmbient 430 775 = 473 ∧ smoothAmbient 473 100 = 426 ∧ smoothAmbient 426 1000 = 498
      ∧ smoothAmbient 498 500 = 498 := by decide

/-- The braking distances of Section 4.9. -/
theorem test_braking_distances : [50, 60, 72, 73].map (brakingDistance 40 25) = [127500, 183000, 262800, 270100] := by decide

/-- Table 4-6: the greatest steps of the two terms at 1100 mm and at 1160 mm. -/
theorem test_permitted_step_terms_of_table_4_6 :
    largestStep (fun v => brakingDistance 40 25 v ≤ 227500) 126 = 66 ∧ largestStep (fun v => brakingDistance 40 25 v ≤ 470000) 126 = 96
      ∧ largestStep (fun v => brakingDistance 40 25 v ≤ 167500) 126 = 57
      ∧ largestStep (fun v => brakingDistance 40 25 v ≤ 410000) 126 = 90 := by decide

/-- Table 4-8: T = 6400 ms over 800 mm at step 50. -/
theorem test_calibration_of_table_4_8 : calibrationQuotient 800 50 6400 = 40 := by decide

/-- Table 4-7: train 0 here is its train 1, blocks 0 and 1 its blocks 12 and 13, after update 1. -/
def update1 : State :=
  let blocks := (layout.blocks.set 0 { defaultBlock with enabled := true, length := 1200, speedCap := 90 }).set 1
    { defaultBlock with enabled := true, length := 400, speedCap := 50 }
  let trains := layout.trains.set 0
    { defaultTrain with enabled := true, node := 30, speedScale := 40, acceleration := 25, deceleration := 25, stopMargin := 30 }
  let s := { town with tables := { layout with blocks, trains } }
  let s := s.updTrain 0 fun r => { r with condition := .running, step := 60, target := 60, permitted := 60, position := 1142000 }
  let s := s.updBlock 1 fun b => { b with holding := some (0, .reserved) }
  s.updPath 0 fun p => { p with reserved := [1], authorised := 1 }

/-- Updates 2 and 3 of Table 4-7: the train brakes and its step falls by one. -/
theorem test_braking_of_table_4_7 :
    let a := updateTrain 0 update1
    let b := updateTrain 0 a
    ((a.train 0).position = 1145000 ∧ (a.train 0).permitted = 59 ∧ (a.train 0).accumulator = 25 ∧ (a.train 0).step = 60
        ∧ (a.train 0).condition = .braking)
      ∧ (b.train 0).position = 1148000 ∧ (b.train 0).permitted = 59 ∧ (b.train 0).accumulator = 0 ∧ (b.train 0).step = 59
        ∧ (b.train 0).condition = .braking := by decide

/-- Table 7-7: rotor 0 of the worked sequence, STOPPING at time 0. -/
def carousel : State :=
  let rotors := layout.rotors.set 0
    { defaultRotor with enabled := true, node := 50, maxStep := 60, creepStep := 12, acceleration := 20, indexEntry := 2, stallLimit := 20000 }
  let s := { town with tables := { layout with rotors }, rotors := { town.rotors with updateTimer := some 20 } }
  s.updRotor 0 fun x =>
    { x with
      condition := .stopping, step := 40, target := 40, ramp := .down, runTime := 3000, indexSeen := true, lastLap := some 8000
      phase := some 375, revolutions := 311 }

theorem test_ramp_down_of_table_7_7 :
    let a := updateRotor 0 carousel
    let b := updateRotor 0 (updateRotor 0 a)
    ((a.rotor 0).step = 40 ∧ (a.rotor 0).accumulator = 20 ∧ (a.rotor 0).runTime = 3020 ∧ (a.rotor 0).phase = some 377)
      ∧ (b.rotor 0).step = 39 ∧ (b.rotor 0).accumulator = 10 ∧ (b.rotor 0).runTime = 3060 ∧ (b.rotor 0).phase = some 382 := by decide

/-- The index edge at 6990 of Table 7-7. -/
theorem test_index_edge_of_table_7_7 :
    let t := indexEdge 0 2 (carousel.updRotor 0 fun x => { x with step := 12, runTime := 9980, phase := some 999 })
    (t.rotor 0).condition = .stopped ∧ (t.rotor 0).step = 0 ∧ (t.rotor 0).lastLap = some 9980 ∧ (t.rotor 0).lapRenewed = true
      ∧ (t.rotor 0).revolutions = 312 ∧ (t.rotor 0).runTime = 0 ∧ (t.rotor 0).phase = some 0 := by decide

/-- Table 6-9: node channels 4 to 8 of lamp node 30, and the host levels 50, 230, 10, 150, 60. -/
def lampNode : State :=
  let patch := ((layout.patch.set 3 { defaultPatch with mapped := true, node := 30, nodeChannel := 5, ceiling := 200 }).set 4
    { defaultPatch with mapped := true, node := 30, nodeChannel := 6, ownership := .engine }).set 5
    { defaultPatch with mapped := true, node := 30, nodeChannel := 7, ownership := .merge, ceiling := 180 }
  let patch := patch.set 6 { defaultPatch with mapped := true, node := 30, nodeChannel := 8, ownership := .merge }
  let s := { town with tables := { layout with patch } }
  let s := s.updChannel 4 fun x => { x with output := 240, emitted := 240 }
  let s := s.updChannel 5 fun x => { x with output := 90, emitted := 90 }
  s.updChannel 6 fun x => { x with output := 120, emitted := 120 }

theorem test_host_levels_of_table_6_9 :
    (adjustPayload 30 [4, 50, 230, 10, 150, 60] lampNode).1 = [4, 50, 200, 240, 150, 120]
      ∧ ((adjustPayload 30 [4, 50, 230, 10, 150, 60] lampNode).2.channel 5).showValue = 150
      ∧ ((adjustPayload 30 [4, 50, 230, 10, 150, 60] lampNode).2.channel 6).showValue = 60 := by decide

/-- The second frame of Section 6.10: levels 250 and 0 from node channel 7. -/
theorem test_second_host_frame_of_section_6_10 : (adjustPayload 30 [7, 250, 0] lampNode).1 = [7, 180, 120] := by decide

/-- R97 with the figures of Section 5.7: a normal advance of 72 ms, with a remainder to add or to withhold, and the last expiry of each slew. -/
theorem test_slewed_advances :
    slewed 72 (some 600000) = (144, some 599928) ∧ slewed 72 (some 24) = (96, some 0) ∧ slewed 72 (some (-600000)) = (36, some (-599964)) ∧ slewed 72 (some (-24)) = (48, some 0) := by
  decide

/-- R21, R67 and R130: the checks of an entry go against the table with all the request's entries applied, and come before those of the next
entry. Entry 0 takes the place that entry 1, out of range, moves away from; a new entry 1 out of range still stands in the way of entry 0. -/
theorem test_writes_check_entry_by_entry_against_the_request :
    let inputs := defaultTables.sensors.set 1 { defaultSensor with enabled := true, node := 3, input := 2 }
    let one := { defaultTrain with enabled := true, node := 30 }
    let rotor := { defaultRotor with enabled := true, node := 50 }
    (writeTable 4 0 ({ defaultSensor with enabled := true, node := 3, input := 2 }.encode
        ++ { defaultSensor with enabled := true, node := 3, input := 20 }.encode) { held with tables := { layout with sensors := inputs } }).1 = .badValue
      ∧ (writeTable 3 0 ({ one with channel := 1 }.encode ++ { one with speedScale := 0 }.encode) held).1 = .badValue
      ∧ (writeTable 11 0 (rotor.encode ++ { rotor with stallLimit := 0 }.encode) held).1 = .duplicate := by decide +kernel

/-! ## Witnesses: machine, formats, invariants -/

theorem witness_StepTakesTheFrontCommand : held.pending = [] := rfl

theorem witness_WhatIsNotUnderWayDoesNotEnd :
    let s := State.reset
    s.loop.intervalTimer = none ∧ s.loop.watchdog = none ∧ (s.sensor 127).timer = none ∧ (s.turnout 15).throwTimer = none
      ∧ (s.block 47).warnTimer = none ∧ (∀ q ∈ s.interlock.queue, q.train = 7 → q.waitTimer = none) ∧ s.motion.updateTimer = none
      ∧ (s.train 7).refreshTimer = none ∧ (s.train 7).guideTimer = none ∧ s.clock.tickTimer = none ∧ s.clock.ambientTimer = none
      ∧ s.lamps.refreshTimer = none ∧ (s.channel 191).staggerTimer = none ∧ (s.channel 191).overrideTimer = none
      ∧ s.rotors.updateTimer = none ∧ (s.rotor 3).refreshTimer = none ∧ (s.cue 63).windowTimer = none ∧ (s.cue 63).holdOffTimer = none
      ∧ s.cues.pendingEvents = [] ∧ s.field.transmitting = none ∧ s.link.transmitting = none ∧ s.store.writing = none
      ∧ s.store.loading ≠ some .restore ∧ held.store.loading ≠ some .startUp := by decide

theorem witness_FramesAndRequestsAreSpelledBack :
    ({ dest := 127, src := 127, kind := 0xFF, payload := List.replicate 48 0xFF } : Frame).inLimits
      ∧ requestOf 14 [7] = some (.locate 7 []) := by unfold Frame.inLimits; decide

/-- Bytes that spell an entry of each table, those of the defaults among them. -/
theorem witness_TableEntriesSurviveReadAndWrite :
    BlockEntry.decode defaultBlock.encode = some defaultBlock
      ∧ TurnoutEntry.decode [3, 20, 1, 3, 0, 100] = some (layout.turnouts[1])
      ∧ RouteEntry.decode layout.routes[0].encode = some layout.routes[0]
      ∧ TrainEntry.decode layout.trains[1].encode = some layout.trains[1]
      ∧ SensorEntry.decode layout.sensors[2].encode = some layout.sensors[2]
      ∧ LoopConfig.decode defaultLoop.encode = some defaultLoop
      ∧ PolicyEntry.decode [5] = some { forwardSense := true, forwardLightcount := false, forwardNodeFault := true }
      ∧ PatchEntry.decode layout.patch[0].encode = some layout.patch[0]
      ∧ decodeSky (encodeSky skyCurve) = some skyCurve
      ∧ decodeAmbient (encodeAmbient defaultTables.ambient) = some defaultTables.ambient
      ∧ ClockConfig.decode layout.clock.encode = some layout.clock
      ∧ RotorEntry.decode layout.rotors[0].encode = some layout.rotors[0]
      ∧ CueEntry.decode layout.cues[1].encode = some layout.cues[1] := by decide

/-- The entries above have their layouts' lengths, the Sky Curve the one its count gives. -/
theorem witness_TableEntriesSurviveReadAndWrite_lengths :
    [defaultBlock.encode, [3, 20, 1, 3, 0, 100], layout.routes[0].encode, layout.trains[1].encode, layout.sensors[2].encode,
        defaultLoop.encode, [5], layout.patch[0].encode, layout.clock.encode, layout.rotors[0].encode, layout.cues[1].encode].map List.length
        = [6, 6, 25, 15, 7, 3, 1, 14, 9, 9, 34]
      ∧ (encodeSky skyCurve).length = 1 + (21 * ((encodeSky skyCurve).getD 0 0).toNat + 7) / 8
      ∧ (encodeAmbient defaultTables.ambient).length = 1 + 4 * ((encodeAmbient defaultTables.ambient).getD 0 0).toNat := by decide

theorem witness_RawCharactersDoWhatTheirCommandDoes :
    (∃ f, showFrame (.hostAllstop 127 []) = some f ∧ f.inLimits) ∧ (∃ f, showFrame (.clearCounters 0) = some f ∧ f.inLimits)
      ∧ ∃ f, fieldFrame (.echoReceived [0]) = some f ∧ f.inLimits :=
  ⟨⟨_, rfl, by unfold Frame.inLimits; decide⟩, ⟨_, rfl, by unfold Frame.inLimits; decide⟩, _, rfl, by unfold Frame.inLimits; decide⟩

/-- A state in which a step does something: `town` with STOP ALL waiting. -/
def stopping : State := town.withCommand (.stopAll 5)

theorem stopping_steps : ∃ t, step stopping = .next t := ⟨_, rfl⟩

theorem witness_StepKeepsTheCountingLaw : (∃ t, step stopping = .next t) ∧ stopping.counters.lawful :=
  ⟨stopping_steps, rfl, rfl, by unfold Counters.reasonsAgree; decide⟩

theorem witness_StepKeepsTheQueuesWithinBounds :
    (∃ t, step stopping = .next t) ∧ stopping.queuesFit ∧ stopping.field.busy :=
  ⟨stopping_steps, by unfold State.queuesFit FieldPort.fits State.upstreamFits Management.fits CueEngine.fits Interlocking.oneRequestEach; decide,
    fun _ => ⟨rfl, rfl, rfl⟩⟩

theorem witness_StepKeepsMotionSafe : (∃ t, step stopping = .next t) ∧ stopping.motionSafe :=
  ⟨stopping_steps, by
    unfold State.motionSafe State.permissionHeld State.excessBrakes State.stillTrainsStand State.rotorsSafe; decide⟩

theorem witness_StepKeepsTheTrackSafe : (∃ t, step town = .next t) ∧ town.trackSafe := ⟨⟨_, rfl⟩, town_trackSafe⟩

theorem witness_StepKeepsTheFiltersAndViews :
    (∃ t, step held = .next t) ∧ held.filtersAgree ∧ held.viewsAgree :=
  ⟨⟨_, rfl⟩, by unfold State.filtersAgree; decide, by unfold State.viewsAgree; decide⟩

theorem witness_StepLeavesNothingDue : (∃ t, step stopping = .next t) ∧ stopping.settled ∧ stopping.startingIsLoading :=
  ⟨stopping_steps, ⟨rfl, by decide⟩, by unfold State.startingIsLoading; decide⟩

/-! ## Witnesses: Chapters 1 and 2 -/

theorem witness_EchoIntervalSendsTheNextEcho :
    ({ town with loop := { town.loop with intervalTimer := some 50 } }).loop.intervalTimer = some 50 := rfl

theorem witness_EchoIsJudgedByItsNumber :
    (¬ (held.loop.echoOutstanding = true ∧ [0] = [held.loop.echoNumber]))
      ∧ let s := { town with loop := { town.loop with echoOutstanding := true, echoNumber := 255 } }
        s.loop.echoOutstanding = true ∧ ([255] : List Byte) = [s.loop.echoNumber] := by decide

theorem witness_QualifyingMarksEveryEntryStale :
    (let s := { town with
      tables := { layout with loop := { layout.loop with passThreshold := 1 } }
      loop := { LoopMonitor.initial with echoOutstanding := true } }
     s.settled ∧ s.loop.echoOutstanding = true ∧ s.loop.state = .down ∧ s.tables.loop.passThreshold = 1)
      ∧ let s := { town with loop := { LoopMonitor.initial with state := .proving, goodCount := 3, echoOutstanding := true } }
        s.settled ∧ s.loop.echoOutstanding = true ∧ s.loop.state = .proving ∧ s.tables.loop.passThreshold ≤ s.loop.goodCount + 1 := by
  unfold State.settled; decide

/-- Too short a frame, and one whose CHECK is wrong. -/
theorem damaged_frames : judge [] = .formatError ∧ judge [0, 126, 0x70, 0, 0, 0] = .checkError := by decide +kernel

theorem witness_DamagedFramesAndSilenceWearTheRing :
    silent.loop.state ≠ .qualified
      ∧ (let s := { town with loop := { town.loop with errorCount := 6 } }
         min (s.loop.errorCount + 1) 15 < s.tables.loop.errorThreshold)
      ∧ (judge [] = .formatError ∧ judge [0, 126, 0x70, 0, 0, 0] = .checkError)
      ∧ let s := { silent with loop := { silent.loop with state := .proving, watchdog := some 100 } }
        s.loop.watchdog = some 100 ∧ s.loop.state ≠ .qualified ∧ s.loop.state = .proving ∧ silent.loop.state = .down := by decide +kernel

/-- Both causes; a reserved block and a turnout locked with it, and a block and a turnout that are not given up. -/
theorem witness_LosingTheRingStopsEverything :
    town.trackSafe ∧ town.loop.state = .qualified ∧ town.loop.watchdog.isSome = true
      ∧ (judge [] = .formatError ∧ judge [0, 126, 0x70, 0, 0, 0] = .checkError)
      ∧ town.tables.loop.errorThreshold ≤ min (town.loop.errorCount + 1) 15
      ∧ let s := onward [0] [1, 2] 1
        s.trackSafe ∧ s.loop.state = .qualified ∧ s.loop.watchdog.isSome = true ∧ (s.train 0).condition.isLocated = true
          ∧ 2 ∈ (s.path 0).reserved ∧ (s.blockEntry 2).crossing = true ∧ (s.turnout 0).lock = some 0
          ∧ (s.turnoutEntry 0).block ∈ (s.path 0).reserved ∧ (∀ tr, 3 ∉ (s.path tr).reserved) ∧ (s.turnout 1).lock = none
          ∧ (let u := s.updRotor 0 fun x => { x with condition := .running }
             u.loop.state = .qualified ∧ (u.rotor 0).condition.isTurning = true) :=
  ⟨town_trackSafe, rfl, rfl, damaged_frames, by decide, onward_trackSafe.1, by decide⟩

theorem witness_ArbiterGrantsOnCompletion :
    ({ town with field := { town.field with transmitting := some (.urgent, echoFrame 0) } }).field.transmitting = some (.urgent, echoFrame 0) := rfl

theorem witness_UnclaimedFrameMarksItsNodeMissing :
    town.settled ∧ kindDrive ≠ kindEcho ∧ (1 : Byte).toNat = 1 ∧ (96 : Byte).toNat = 96 ∧ town.field.isMissing 96 = false
      ∧ (trainAt town.tables 30 (n1 [0, 0, 0] 0) = some 0 ∧ (town.train 0).condition.isLocated = true)
      ∧ (trainAt town.tables 30 (n1 [1, 0, 0] 0) = some 1 ∧ (town.train 1).condition.isLocated = false)
      ∧ turnoutAt town.tables 20 (n1 [1, 0] 0) = some 1
      ∧ (rotorAt town.tables 50 (n1 [0, 0, 0] 0) = some 0 ∧ (town.rotor 0).condition = .unhomed)
      ∧ (rotorAt carousel.tables 50 (n1 [0, 0, 0] 0) = some 0 ∧ (carousel.rotor 0).condition.isTurning = true)
      ∧ trainAt town.tables 96 (n1 [0, 0, 0] 0) = none ∧ turnoutAt town.tables 96 (n1 [0, 0] 0) = none
      ∧ rotorAt town.tables 96 (n1 [0, 0, 0] 0) = none
      ∧ let s := { town with field := { town.field with missing := 1 } }
        s.settled ∧ s.field.isMissing 1 = true := by unfold State.settled; decide

/-- `town` with every report of node 96 handed on, and with no room for it. -/
def handing : State := { town with tables := { layout with policy := layout.policy.set 95 ⟨true, true, true⟩ } }
def fullUpstream : State := { handing with link := { handing.link with upstream := List.replicate 28 senseRequestFrame } }

theorem witness_NodeFaultIsReportedAndForwarded :
    (1 : Byte).toNat = 1 ∧ (96 : Byte).toNat = 96 ∧ forwards town.tables 1 kindNodeFault = false
      ∧ (forwards handing.tables 96 kindNodeFault = true ∧ (raise .nodeFault 96 0 handing).othersWaiting < 28)
      ∧ forwards fullUpstream.tables 96 kindNodeFault = true ∧ ¬ (raise .nodeFault 96 0 fullUpstream).othersWaiting < 28 := by decide

theorem sensed_motionSafe :
    ∀ s ∈ [town, onward [0] [1, 2] 1, onward [1, 0] [] 0, town.updTrain 0 fun r => { r with condition := .halted, cause := some .loop }],
      s.motionSafe := by
  unfold State.motionSafe State.permissionHeld State.excessBrakes State.stillTrainsStand State.rotorsSafe; decide

/-- A report of the wrong length; the six cases of an entry; and the one entry of node 10 STALE on a block that is detected anew: unheld, at
a train's first reserved block and at a later one, at a train's sole block and at its rear, at a train HALTED by LOOP, at a home block. -/
theorem witness_SenseActsOnItsNodesEntries :
    (1 : Byte).toNat = 1 ∧ (96 : Byte).toNat = 96 ∧ forwards town.tables 10 kindSense = false ∧ ([0, 1] : List Byte).length ≠ 3
      ∧ town.settled
      ∧ (let stale : SensorState := { raw := true, filtered := true, fresh := false, timer := none }
         let atRest : SensorState := { raw := false, filtered := false, fresh := true, timer := none }
         let waits : SensorState := { raw := true, filtered := false, fresh := true, timer := some 30 }
         let quick : SensorEntry := layout.sensors[0]
         let slow : SensorEntry := { quick with filterTime := 30 }
         stale.fresh = false ∧ (atRest.fresh = true ∧ atRest.timer = none ∧ false = atRest.filtered ∧ true ≠ atRest.filtered)
           ∧ quick.filterTime = 0 ∧ slow.filterTime ≠ 0
           ∧ waits.fresh = true ∧ waits.timer.isSome = true ∧ false = waits.filtered ∧ true ≠ waits.filtered)
      ∧ (∀ p ∈ [(3, true, town), (1, true, onward [0] [1, 2] 1), (2, true, onward [0] [1, 2] 1), (0, false, town), (0, false, onward [1, 0] [] 0)],
          let s := watched (.occupancy p.1) p.2.2
          let new := deriveBlock s.tables (s.filter.entries.set 0 { s.sensor 0 with raw := p.2.1, filtered := p.2.1, fresh := true }) p.1
          (∀ j, (s.sensorEntry j).enabled = true ∧ (s.sensorEntry j).node = 10 ↔ j = 0) ∧ (s.sensorEntry 0).function = .occupancy p.1
            ∧ (s.sensor 0).fresh = false ∧ new ≠ s.view p.1 ∧ new.detection = (if p.2.1 then .occupied else .clear) ∧ s.settled
            ∧ s.interlock.queue = [])
      ∧ ((onward [0] [1, 2] 1).path 0 = { occupied := [0], reserved := [1, 2], authorised := 1 } ∧ (onward [0] [1, 2] 1).trackSafe
          ∧ (onward [1, 0] [] 0).trackSafe ∧ town.trackSafe)
      ∧ (town.motionSafe ∧ (onward [0] [1, 2] 1).motionSafe ∧ (onward [1, 0] [] 0).motionSafe)
      ∧ (let s := town.updTrain 0 fun r => { r with condition := .halted, cause := some .loop }
         (s.train 0).condition = .halted ∧ 0 ∈ (s.path 0).occupied ∧ (s.train 0).cause = some .loop ∧ s.qualified = true ∧ s.motionSafe)
      ∧ let s := { town with tables := { layout with trains := layout.trains.set 1 { layout.trains[1] with home := some 3 } } }
        (s.train 1).condition = .lost ∧ (s.trainEntry 1).home = some 3 ∧ (∀ o, o ≠ 1 → (s.trainEntry o).home ≠ some 3)
          ∧ (s.train 1).armed = true ∧ (s.path 1).occupied = [] ∧ (s.block 3).holding = none ∧ (s.blockEntry 3).enabled = true
          ∧ ∀ o, (s.block 3).holding ≠ some (o, .reserved) := by
  unfold State.settled
  exact ⟨by decide, by decide, by decide, by decide, by decide, by decide, by decide +kernel,
    ⟨by decide, onward_trackSafe.1, onward_trackSafe.2, town_trackSafe⟩,
    ⟨sensed_motionSafe _ (by simp), sensed_motionSafe _ (by simp), sensed_motionSafe _ (by simp)⟩,
    ⟨by decide, by decide, by decide, by decide, sensed_motionSafe _ (by simp)⟩, by decide⟩

/-- `town` with the filter timer of an entry running. -/
def filtering (e : EntryId) (raw : Bool) (s : State) : State :=
  s.updSensor e fun _ => { raw, filtered := !raw, fresh := true, timer := some 30 }

/-- A button, a SPARE input, and the inputs of turnout 1 and of blocks detected anew: unheld, a train's first reserved block and a later one,
its sole block and its rear. -/
theorem witness_FilterTimerAcceptsTheChange :
    (let s := filtering 1 true town
     (s.sensor 1).timer = some 30 ∧ (s.sensorEntry 1).function = .button ∧ (s.sensor 1).raw = true ∧ (s.sensor 1).filtered = false
       ∧ s.mode ≠ .starting ∧ s.cues.pendingEvents.length < 32)
      ∧ (let s := filtering 1 false town
         (s.sensor 1).timer = some 30 ∧ (s.sensorEntry 1).function = .button ∧ (s.sensor 1).raw = false)
      ∧ (let s := filtering 0 true (watched .spare town)
         (s.sensor 0).timer = some 30 ∧ (s.sensorEntry 0).function = .spare ∧ (s.sensor 0).raw ≠ (s.sensor 0).filtered)
      ∧ (∀ c ∈ [TurnoutCondition.moving, .set, .free, .fault],
          let s := filtering 0 true (watched (.turnoutNormal 1) (town.updTurnout 1 fun x => { x with condition := c, position := some .reverse, lock := some 0 }))
          let new := deriveTurnout s.tables (s.filter.entries.set 0 { s.sensor 0 with filtered := true, timer := none }) 1
          (s.sensorEntry 0).enabled = true ∧ (s.sensorEntry 0).function = .turnoutNormal 1 ∧ (s.turnoutEntry 1).feedback = true
            ∧ new ≠ s.filter.turnouts[(1 : TurnoutId)] ∧ new = .normal ∧ shownPosition s.tables 1 new ≠ (s.turnout 1).position)
      ∧ (∀ p ∈ [(3, true, town), (1, true, onward [0] [1, 2] 1), (2, true, onward [0] [1, 2] 1), (0, false, town), (0, false, onward [1, 0] [] 0)],
          let s := filtering 0 p.2.1 (watched (.occupancy p.1) p.2.2)
          let s := { s with filter := { s.filter with blocks := s.filter.blocks.set p.1 ⟨if p.2.1 then .clear else .occupied, true⟩ } }
          let new := deriveBlock s.tables (s.filter.entries.set 0 { s.sensor 0 with filtered := p.2.1, timer := none }) p.1
          (s.sensor 0).timer = some 30 ∧ (s.sensorEntry 0).enabled = true ∧ (s.sensorEntry 0).function = .occupancy p.1
            ∧ new ≠ s.view p.1 ∧ new.detection = (if p.2.1 then .occupied else .clear) ∧ s.settled ∧ s.interlock.queue = []
            ∧ (∀ tr, ¬ ((s.train tr).condition = .halted ∧ (s.train tr).cause = some .loop ∧ p.1 ∈ (s.path tr).occupied)
              ∧ ¬ ((s.train tr).condition = .lost ∧ (s.trainEntry tr).home = some p.1))
            ∧ s.mode ≠ .starting ∧ s.cues.pendingEvents.length < 32)
      ∧ (onward [0] [1, 2] 1).trackSafe ∧ (onward [1, 0] [] 0).trackSafe ∧ town.trackSafe := by
  unfold State.settled
  exact ⟨by decide, by decide, by decide, by decide, by decide +kernel, onward_trackSafe.1, onward_trackSafe.2, town_trackSafe⟩

/-! ## Witnesses: Chapter 3 -/

/-- `town` with turnout 1 MOVING under train 0's lock, block 2 warning for it, and its request waiting. -/
def working : State :=
  { town with interlock := { town.interlock with
      turnouts := town.interlock.turnouts.set 1
        { TurnoutState.initial with condition := .moving, commanded := some .reverse, lock := some 0, throwTimer := some 100, indication := .reverse }
      blocks := town.interlock.blocks.set 2 { BlockState.initial with crossing := .warning, warnTimer := some 200, holding := some (0, .reserved) }
      queue := [{ train := 0, route := 0, waitLimit := 600, source := .mgmt, waitTimer := some 600000 }] } }

theorem witness_InterlockingTimersExpire :
    ((working.turnout 1).throwTimer = some 100 ∧ (working.turnoutEntry 1).feedback = true ∧ (working.turnout 1).lock = some 0
        ∧ shownPosition working.tables 1 (working.turnout 1).indication = (working.turnout 1).commanded
        ∧ shownPosition working.tables 1 .both = none)
      ∧ ((working.block 2).warnTimer = some 200 ∧ (working.block 2).holding = some (0, .reserved))
      ∧ requestOfTrain working 0 = some { train := 0, route := 0, waitLimit := 600, source := .mgmt, waitTimer := some 600000 }
      ∧ working.mode ≠ .starting ∧ working.cues.pendingEvents.length < 32 := by decide

/-- Block 1 within the count and the IDLE crossing block 2 behind it, block 0 no obstacle; and the occupied block 0 intruded. -/
theorem witness_AuthorityEndsBeforeTheFirstObstacle :
    let s := { update1 with interlock := { update1.interlock with
      paths := update1.interlock.paths.set 0 { occupied := [0], reserved := [1, 2], authorised := 1 } } }
    (1 ∈ (s.path 0).reserved.take (authorisedCount s 0)) ∧ (s.path 0).reserved[authorisedCount s 0]? = some 2
      ∧ (s.path 0).occupied = [0] ∧ (s.block 0).intruded = false ∧ (s.blockEntry 0).crossing = false
      ∧ (∀ u, ¬ ((s.turnout u).lock = some 0 ∧ (s.turnoutEntry u).block = 0 ∧ (s.turnout u).condition ≠ .set))
      ∧ let t := s.updBlock 0 fun b => { b with intruded := true }
        0 ∈ (t.path 0).occupied ∧ (t.block 0).intruded = true := by decide

theorem witness_DispatchQueuesAndCancelRemoves :
    yard.ready ∧ yard.mode ≠ .run ∧ 7 < (8 : Byte).toNat ∧ 31 < (32 : Byte).toNat ∧ (7 : Byte).toNat = (7 : TrainId).val
      ∧ (31 : Byte).toNat = (31 : RouteId).val ∧ requestOfTrain yard 0 = none ∧ (requestOfTrain working 0).isSome = true ∧ working.ready
      ∧ town.ready ∧ town.mode = .run :=
  ⟨yard_ready, by decide, by decide, by decide, rfl, rfl, by decide, by decide,
    ⟨rfl, by decide, by decide, ⟨rfl, by decide⟩, by unfold State.stillTrainsStand; decide⟩, town_ready, rfl⟩

theorem clearTown_ready : clearTown.ready := ⟨rfl, by decide, by decide, ⟨rfl, by decide⟩, by unfold State.stillTrainsStand; decide⟩

theorem clearTown_trackSafe : clearTown.trackSafe :=
  ⟨by unfold State.holdersAgree; decide, by unfold State.listsFit; decide, by unfold State.claimsLocated; decide,
    by unfold State.authorityAgrees; decide, by unfold Tables.routesSound; decide, by unfold Tables.routesSound; decide, fun _ h => nomatch h⟩

/-- `clearTown` with a request of train 1 waiting, which cannot be granted. -/
def queuedTown : State :=
  { clearTown.updTrain 1 fun r => { r with condition := .stopped } with
    interlock := { clearTown.interlock with queue := [{ train := 1, route := 31, waitLimit := 0, source := .cue, waitTimer := none }] } }

theorem queuedTown_ready : queuedTown.ready :=
  ⟨rfl, by decide, by decide, ⟨rfl, by decide⟩, by unfold State.stillTrainsStand; decide⟩

/-- A grantable request whose turnout 0 is to be thrown, and one whose turnout stands in the listed position; a waiting SWITCH for the turnout
and a waiting LEVEL; a DISPATCH with an empty queue and with a request ahead of it. -/
theorem witness_GrantReservesTheRoute :
    (let q : RouteRequest := { train := 0, route := 0, waitLimit := 600, source := .mgmt, waitTimer := none }
     grantable clearTown q = true ∧ clearTown.trackSafe ∧ ((clearTown.routeEntry 0).turnouts.map Prod.fst).Nodup
       ∧ (0, .reverse) ∈ (clearTown.routeEntry 0).turnouts ∧ (clearTown.turnout 0).position = none
       ∧ (let s := clearTown.updTurnout 0 fun x => { x with position := some .reverse }
          grantable s q = true ∧ (s.turnout 0).condition = .free ∧ (s.turnoutEntry 0).feedback = false)
       ∧ (clearTown.routeEntry 0).turnouts.map Prod.fst = [0] ∧ clearTown.cues.pendingEvents.length < 32)
      ∧ ((0 : Byte).toNat = (0 : TrainId).val ∧ (0 : Byte).toNat = (0 : RouteId).val ∧ (600 : BitVec 16).toNat ≤ 600)
      ∧ ∀ s ∈ [clearTown, queuedTown], s.ready ∧ s.mode = .run ∧ (s.routeEntry 0).enabled = true
          ∧ (s.train 0).condition.isLocated = true ∧ requestOfTrain s 0 = none
          ∧ ((s.path 0).reserved.getLast?.or (s.path 0).occupied.head?) = some (s.routeEntry 0).start := by
  refine ⟨⟨by decide, clearTown_trackSafe, by decide⟩, by decide, ?_⟩
  intro s hs
  rcases List.mem_cons.1 hs with rfl | hs
  · exact ⟨clearTown_ready, by decide⟩
  · rcases List.mem_singleton.1 hs with rfl
    exact ⟨queuedTown_ready, by decide⟩

/-- `yard` with train 0 LOST again and no block held. -/
def empty : State :=
  { yard with interlock := { held.interlock with blocks := yard.interlock.blocks.set 0 { BlockState.initial with detection := .occupied } }
              motion := held.motion }

theorem empty_ready : empty.ready := ⟨rfl, by decide, by decide, ⟨rfl, by decide⟩, by unfold State.stillTrainsStand; decide⟩

theorem empty_trackSafe : empty.trackSafe :=
  ⟨by unfold State.holdersAgree; decide, by unfold State.listsFit; decide, by unfold State.claimsLocated; decide,
    by unfold State.authorityAgrees; decide, by unfold Tables.routesSound; decide, by unfold Tables.routesSound; decide, fun _ h => nomatch h⟩

theorem yard_trackSafe : yard.trackSafe :=
  ⟨by unfold State.holdersAgree; decide, by unfold State.listsFit; decide, by unfold State.claimsLocated; decide,
    by unfold State.authorityAgrees; decide, by unfold Tables.routesSound; decide, by unfold Tables.routesSound; decide, fun _ h => nomatch h⟩

/-- The first index out of each range. -/
theorem indexes_out_of_range :
    7 < (8 : Byte).toNat ∧ 15 < (16 : Byte).toNat ∧ 47 < (48 : Byte).toNat ∧ ∃ b ∈ ([0, 48] : List Byte), 47 < b.toNat := by decide

/-- Every clause (its indexes: `indexes_out_of_range`): outside HOLD; no block and five; a train that is not LOST and a block that is not OCCUPIED; and the placing itself. -/
theorem witness_LocatePlacesALostTrain :
    (town.ready ∧ town.trackSafe ∧ town.mode ≠ .hold)
      ∧ (empty.ready ∧ empty.trackSafe ∧ empty.mode = .hold ∧ 4 < ([0, 1, 2, 3, 4] : List BlockId).length)
      ∧ (yard.ready ∧ yard.trackSafe ∧ yard.mode = .hold ∧ ([0] : List BlockId).Nodup ∧ (yard.train 0).condition ≠ .lost)
      ∧ (∃ b ∈ ([0, 1] : List BlockId), (empty.block b).detection ≠ .occupied)
      ∧ (empty.train 0).condition = .lost ∧ [(0 : BlockId)] ≠ [] ∧ ([0] : List BlockId).length ≤ 4
      ∧ ∀ b ∈ ([0] : List BlockId), (empty.blockEntry b).enabled = true ∧ (empty.block b).detection = .occupied
          ∧ ∀ h, (empty.block b).holding = some h → h.1 = 0 :=
  ⟨⟨town_ready, town_trackSafe, by decide⟩, ⟨empty_ready, empty_trackSafe, rfl, by decide⟩,
    ⟨yard_ready, yard_trackSafe, rfl, by decide, by decide⟩, by decide, by decide, by decide, by decide, by
      intro b hb
      obtain rfl : b = 0 := by simpa using hb
      exact ⟨by decide, by decide, fun h hh => by cases hh⟩⟩

/-- Its index out of range: `indexes_out_of_range`. -/
theorem witness_RemoveGivesUpATrainsBlocks :
    (yard.ready ∧ yard.trackSafe ∧ (yard.train 0).condition = .stopped)
      ∧ (town.ready ∧ town.trackSafe ∧ (town.train 0).condition = .stopped ∧ town.mode = .run ∧ (town.path 0).occupied ≠ [])
      ∧ (empty.ready ∧ empty.trackSafe ∧ (empty.train 0).condition = .lost) ∧ (empty.train 7).condition = .absent :=
  ⟨⟨yard_ready, yard_trackSafe, rfl⟩, ⟨town_ready, town_trackSafe, rfl, rfl, by decide⟩, ⟨empty_ready, empty_trackSafe, rfl⟩, by decide⟩

/-- `town` with turnout 0 FAULT and block 3 intruded and CLEAR. -/
def troubled : State :=
  (town.updTurnout 0 fun x => { x with condition := .fault, commanded := some .reverse }).updBlock 3 fun b =>
    { b with intruded := true, detection := .clear }

theorem troubled_ready : troubled.ready := ⟨rfl, by decide, by decide, ⟨rfl, by decide⟩, by unfold State.stillTrainsStand; decide⟩

/-- Its indexes out of range: `indexes_out_of_range`. -/
theorem witness_RetryThrowsAndClearBlockRestores :
    (troubled.ready ∧ (troubled.turnoutEntry 0).enabled = true ∧ (troubled.turnout 0).condition = .fault ∧ troubled.qualified = true
        ∧ (troubled.turnoutEntry 15).enabled = false ∧ (troubled.turnout 1).condition ≠ .fault)
      ∧ (let s := { troubled with loop := LoopMonitor.initial }
         s.ready ∧ (s.turnoutEntry 0).enabled = true ∧ (s.turnout 0).condition = .fault ∧ s.qualified = false)
      ∧ ((troubled.block 3).intruded = true ∧ (troubled.block 3).detection = .clear) ∧ (troubled.block 0).intruded = false :=
  ⟨⟨troubled_ready, by decide⟩, ⟨⟨rfl, by decide, by decide, ⟨rfl, by decide⟩, by unfold State.stillTrainsStand; decide⟩, by decide⟩, by decide⟩

theorem witness_HostSwitchThrowsUnlockedTurnouts :
    (1 : Byte).toNat = 1 ∧ (96 : Byte).toNat = 96 ∧ town.mode ≠ .starting ∧ town.qualified = true ∧ town.settled
      ∧ turnoutAt town.tables 96 0 = none ∧ (turnoutAt town.tables 20 0 = some 0 ∧ (town.turnout 0).lock = none)
      ∧ turnoutAt working.tables 20 1 = some 1 ∧ (working.turnout 1).lock = some 0 := by unfold State.settled; decide

/-! ## Witnesses: Chapter 4 -/

theorem witness_PermittedStepIsTheGreatestSafeStep :
    motionPermitted silent = false ∧ (motionPermitted update1 = true ∧ (update1.train 0).condition.isLocated = true)
      ∧ 0 ∈ (update1.path 0).occupied ∧ (authorisedBlocks update1 0)[0]? = some 1 ∧ 0 < permittedStep update1 0 ∧ permittedStep update1 0 < 126
      ∧ 0 < 1 ∧ 50 ∣ 50 := by decide

/-- `update1` with a request of its train waiting. -/
def timed : State :=
  { update1 with
    motion := { update1.motion with updateTimer := some 20 }
    interlock := { update1.interlock with
      queue := [{ train := 0, route := 0, waitLimit := 0, source := .mgmt, waitTimer := none }] } }

/-- `timed` with the train's front 1 mm before the end of its head block, and its miss allowance in µm. -/
def late (allowance : Nat) : State := timed.updTrain 0 fun r => { r with position := 1199000, unseen := 0, missAllowance := allowance }

/-- `timed` coming to rest with no reserved block. -/
def arriving : State :=
  ((timed.updPath 0 fun p => { p with reserved := [], authorised := 0 }).updBlock 1 fun b => { b with holding := none }).updTrain 0 fun r =>
    { r with step := 1, target := 0 }

theorem timed_trackSafe : timed.trackSafe :=
  ⟨by unfold State.holdersAgree; decide +kernel, by unfold State.listsFit; decide, by unfold State.claimsLocated; decide,
    by unfold State.authorityAgrees; decide, town_routesSound⟩

theorem late_trackSafe : (late 0).trackSafe :=
  ⟨timed_trackSafe.1, timed_trackSafe.2.1, by unfold State.claimsLocated; decide, timed_trackSafe.2.2.2⟩

theorem arriving_trackSafe : arriving.trackSafe :=
  ⟨by unfold State.holdersAgree; decide +kernel, by unfold State.listsFit; decide, by unfold State.claimsLocated; decide,
    by unfold State.authorityAgrees; decide, timed_trackSafe.2.2.2.2⟩

/-- A located train within its head block, one past it within its allowance and one beyond, one that arrives, the part in HOLDING, and a
train that is not located; no request waiting, a train that goes on while one waits, and one that halts with a request of its own. -/
theorem witness_MotionUpdateMovesEachTrain :
    let holding := { timed with mgmt := { mode := .holding, intake := [] } }
    let alone := { timed with interlock := { timed.interlock with queue := [] } }
    let front : State → Nat := fun u =>
      (u.train 0).position + ((u.train 0).step * (u.trainEntry 0).speedScale * 5 + (u.train 0).carry) / 4
    (timed.motion.updateTimer = some 20 ∧ timed.settled ∧ timed.trackSafe)
      ∧ (holding.mode = .holding ∧ holding.settled) ∧ alone.interlock.queue = []
      ∧ (timed.train 1).condition.isLocated = false ∧ (timed.train 0).condition.isLocated = true ∧ front timed ≤ headLength timed 0
      ∧ (headLength (late 0) 0 < front (late 0)
          ∧ ((late 0).train 0).missAllowance < ((late 0).train 0).unseen + (front (late 0) - headLength (late 0) 0))
      ∧ (headLength (late 100000) 0 < front (late 100000)
          ∧ ¬ ((late 100000).train 0).missAllowance < ((late 100000).train 0).unseen + (front (late 100000) - headLength (late 100000) 0))
      ∧ (0 < (arriving.train 0).step ∧ (arriving.path 0).reserved = [] ∧ (arriving.trainEntry 0).mode = .auto
        ∧ (rampTrain { arriving.trainEntry 0 with deceleration := 100 } 0
            { step := 1, accumulator := (arriving.train 0).accumulator, direction := (arriving.train 0).ramp }).step = 0
        ∧ arriving.cues.pendingEvents.length ≤ 24 ∧ arriving.trackSafe)
      ∧ (timed.interlock.queue ≠ [] ∧ ((updateTrain 0 timed).train 0).condition ≠ .halted)
      ∧ ((late 0).settled ∧ (late 0).trackSafe ∧ (requestOfTrain (late 0) 0).isSome = true ∧ ((late 0).path 0).reserved ≠ []
        ∧ ((updateTrain 0 (late 0)).train 0).condition = .halted) := by
  unfold State.settled
  exact ⟨⟨by decide, by decide, timed_trackSafe⟩, by decide, by decide, by decide, by decide, by decide, by decide, by decide,
    ⟨by decide, by decide, by decide, by decide, by decide, arriving_trackSafe⟩, by decide,
    by decide, late_trackSafe, by decide, by decide, by decide +kernel⟩

theorem witness_TimersOfOneSubjectExpire :
    let s := town.updTrain 1 fun r => { r with refreshTimer := some 1000, guideTimer := some 100 }
    let s := s.updRotor 0 fun x => { x with refreshTimer := some 1000 }
    let s := s.updChannel 0 fun x => { x with staggerTimer := some 1500, overrideTimer := some 40 }
    let s := s.updCue 1 fun x => { x with windowTimer := some 1, holdOffTimer := some 1 }
    (s.train 1).refreshTimer = some 1000 ∧ (s.train 1).guideTimer = some 100 ∧ (s.rotor 0).refreshTimer = some 1000
      ∧ ((s.channel 0).staggerTimer = some 1500 ∧ (s.patchEntry 0).kind = .street 400 450 1500) ∧ (s.channel 0).overrideTimer = some 40
      ∧ (s.cue 1).windowTimer = some 1 ∧ (s.cue 1).holdOffTimer = some 1 := by decide

theorem witness_HostDriveGuidesGuidedTrains :
    town.mode ≠ .starting ∧ town.qualified = true ∧ town.settled ∧ (1 : Byte).toNat = 1 ∧ (96 : Byte).toNat = 96
      ∧ trainAt town.tables 96 0 = none ∧ (trainAt town.tables 30 0 = some 0 ∧ (town.trainEntry 0).mode = .auto)
      ∧ (trainAt town.tables 30 1 = some 1 ∧ (town.trainEntry 1).mode = .guided) ∧ (0 : Byte).getLsbD 1 = false ∧ (2 : Byte).getLsbD 1 = true := by
  unfold State.settled; decide

theorem witness_TrainRequestsActOnOneTrain :
    town.ready ∧ 1 < (2 : Byte).toNat ∧ (0 : Byte).toNat = (if TrainMode.auto = .auto then 0 else 1)
      ∧ (1 : Byte).toNat = (if TrainMode.guided = .auto then 0 else 1) ∧ 7 < (8 : Byte).toNat ∧ (7 : Byte).toNat = (7 : TrainId).val
      ∧ 47 < (48 : Byte).toNat ∧ (47 : Byte).toNat = (47 : BlockId).val :=
  ⟨town_ready, by decide⟩

/-- Its index out of range: `indexes_out_of_range`. -/
theorem witness_ReverseTurnsTheTrainRound :
    town.ready ∧ ((town.train 0).condition = .stopped ∧ (town.path 0).reserved = []) ∧ (town.path 0).occupied.getLast? = some 0
      ∧ ¬ ((town.train 1).condition = .stopped ∧ (town.path 1).reserved = []) :=
  ⟨town_ready, by decide⟩

theorem witness_StopAllHaltsEverything :
    town.trackSafe ∧ town.ready ∧ ((1 : Byte).toNat = 1 ∧ (96 : Byte).toNat = 96) ∧ town.mode ≠ .starting :=
  ⟨town_trackSafe, town_ready, by decide⟩

/-! ## Witnesses: Chapters 5 and 6 -/

/-- `town` at 23:59:59.999 with a slew remainder. -/
def midnight (slew : Option Int) (queue : List CueEvent) : State :=
  { town with
    clock := { town.clock with virtualTime := 86399999, slew, fraction := 15, rate := 65535, tickTimer := some 1 }
    cues := { town.cues with pendingEvents := queue } }

/-- No slew; a remainder to add that the advance just uses up, and one it does not; the same to withhold; a boundary passed and none. -/
theorem witness_DayClockTickAdvancesTheTime :
    let n := ((midnight none []).clock.rate + (midnight none []).clock.fraction) / 16
    ((midnight none []).clock.tickTimer = some 1 ∧ (midnight none []).clock.rate ≤ 65535 ∧ (midnight none []).clock.fraction ≤ 15
        ∧ (midnight none []).clock.slew = none)
      ∧ ((midnight (some n) []).clock.slew = some ((n : Nat) : Int) ∧ (midnight (some (n + 1)) []).clock.slew = some ((n + 1 : Nat) : Int))
      ∧ ((midnight (some (-(n - n / 2 : Nat))) []).clock.slew = some (-((n - n / 2 : Nat) : Int)) ∧ 0 < n - n / 2)
      ∧ (86399999 < 1440 * 60000 ∧ 1440 * 60000 ≤ 86399999 + 1 ∧ (midnight none []).mode ≠ .starting
        ∧ (midnight none []).cues.pendingEvents.length < 32)
      ∧ let s := { town with clock := { town.clock with tickTimer := some 1 } }
        (s.clock.tickTimer = some 1 ∧ s.clock.slew = none ∧ (s.clock.rate + s.clock.fraction) / 16 = 1)
          ∧ ∀ k, s.clock.virtualTime < k * 60000 → s.clock.virtualTime + 1 < k * 60000 :=
  ⟨by decide, by decide, by decide, by decide, by decide, fun k h => by
    have h0 : ({ town with clock := { town.clock with tickTimer := some 1 } } : State).clock.virtualTime = 28800000 := rfl
    omega⟩

theorem witness_ClockRequestsSetTheTimeAndTheRate :
    town.ready ∧ 86399 < (86400 : BitVec 24).toNat ∧ (86399 : BitVec 24).toNat ≤ 86399
      ∧ ({ town with clock := { town.clock with rate := 0 } }).clock.rate = 0 ∧ town.clock.rate ≠ 0
      ∧ (-43200000 : Int) ≤ -43200000 ∧ (-43200000 : Int) ≤ 43199999
      ∧ (86400000 : Int) ∣ (72000 : BitVec 24).toNat * 1000 - town.clock.virtualTime - -43200000 :=
  ⟨town_ready, by decide, by decide, rfl, by decide, by decide, by decide, by decide⟩

theorem witness_AmbientLevelFollowsItsSamples :
    (1 : Byte).toNat = 1 ∧ (96 : Byte).toNat = 96 ∧ forwards town.tables 96 kindLightcount = false
      ∧ town.tables.clock.ambientNode ≠ (96 : Byte).toNat ∧ town.tables.clock.ambientNode = (60 : Byte).toNat
      ∧ ({ town with clock := { town.clock with ambientTimer := some 10000 } }).clock.ambientTimer = some 10000
      ∧ (skyCurve.map Prod.fst).Pairwise (· < ·) ∧ (30, 40) ∈ skyCurve ∧ skyCurve.head? = some (30, 40) ∧ 30 ≤ 30
      ∧ skyCurve.getLast? = some (1320, 60)
      ∧ (let all : PolicyEntry := { forwardSense := true, forwardLightcount := true, forwardNodeFault := true }
         let forwarding : State := { town with tables := { town.tables with policy := town.tables.policy.set 59 all } }
         forwards forwarding.tables 60 kindLightcount = true ∧ forwarding.othersWaiting < 28)
      ∧ (∃ b, skyCurve[0]? = some (30, 40) ∧ skyCurve[1]? = some b ∧ 30 < b.1) ∧ 1320 ≤ 1439 ∧ 1320 * 60 ≤ 86399 ∧ 0 < 30 * 60 := by
  refine ⟨by decide, by decide, by decide, by decide, by decide, rfl, by decide, by decide, by decide, by decide, by decide, by decide,
    ⟨_, rfl, rfl, by decide⟩, by decide⟩

theorem witness_LampRefreshComputesTheLevels :
    let s := { town with lamps := { town.lamps with refreshTimer := some 40, flashCount := 24, restatementCount := 49 } }
    s.lamps.refreshTimer = some 40 ∧ (s.patchEntry 191).mapped = false ∧ (s.patchEntry 2).ownership = .show
      ∧ ((s.patchEntry 0).mapped = true ∧ (s.patchEntry 0).ownership ≠ .show ∧ (s.patchEntry 0).kind = .street 400 450 1500)
      ∧ ((s.patchEntry 1).mapped = true ∧ (s.patchEntry 1).ownership ≠ .show)
      ∧ (s.channel 1).output ≤ (s.patchEntry 1).ceiling := by decide

theorem witness_LampRefreshSendsWhatChanged :
    let s := { town with lamps := { town.lamps with refreshTimer := some 40, restatementCount := 49 } }
    s.lamps.refreshTimer = some 40 ∧ s.field.busy
      ∧ (∀ c, (s.patchEntry c).engineOwned = true →
        1 ≤ (s.patchEntry c).node ∧ (s.patchEntry c).node ≤ 96 ∧ (s.patchEntry c).nodeChannel ≤ 63
          ∧ ∀ c', (s.patchEntry c').engineOwned = true → (s.patchEntry c').node = (s.patchEntry c).node →
              (s.patchEntry c').nodeChannel = (s.patchEntry c).nodeChannel → c' = c)
      ∧ (s.patchEntry 0).engineOwned = true ∧ nodeBusy s.field.engine 40 = false := by
  have owned : ∀ c : ChannelId, (town.patchEntry c).engineOwned = true → c = 0 ∨ c = 1 := by decide +kernel
  refine ⟨rfl, fun _ => ⟨rfl, rfl, rfl⟩, ?_, by decide, by decide⟩
  intro c hc
  rcases owned c hc with rfl | rfl <;> refine ⟨by decide, by decide, by decide, ?_⟩ <;> intro c' hc' _ hn <;>
    rcases owned c' hc' with rfl | rfl <;> first | rfl | exact absurd hn (by decide)

/-- Every clause: first channels 0 and 63, an unmapped output and each ownership; no levels and first channel 64; a broadcast with and without a
mapped channel. -/
theorem witness_HostLevelIsAdjustedAndHandedOn :
    town.mode ≠ .starting ∧ town.settled ∧ (1 : Byte).toNat = 1 ∧ (96 : Byte).toNat = 96 ∧ (63 : Byte).toNat ≤ 63
      ∧ (channelAt town.tables 40 2 = some 2 ∧ (town.patchEntry 2).ownership = .show)
      ∧ (channelAt town.tables 40 0 = some 0 ∧ (town.patchEntry 0).ownership = .engine)
      ∧ (channelAt town.tables 40 1 = some 1 ∧ (town.patchEntry 1).ownership = .merge)
      ∧ channelAt town.tables 96 63 = none ∧ ([0] : List Byte).length ≤ 1 ∧ 63 < n1 [64, 9] 0
      ∧ (∃ c, (town.patchEntry c).mapped = true)
      ∧ let s := { held with tables := defaultTables }
        s.mode ≠ .starting ∧ s.settled ∧ ∀ c, (s.patchEntry c).mapped = false := by
  unfold State.settled
  refine ⟨by decide, by decide, by decide, by decide, by decide, by decide, by decide, by decide, by decide +kernel, by decide, by decide,
    ⟨0, by decide⟩, by decide, by decide, by decide +kernel⟩

/-! ## Witnesses: Chapters 7 and 8 -/

theorem witness_RotorsStartAndStopByRequestAndByHost :
    (town.ready ∧ 3 < (4 : Byte).toNat ∧ (0 : Byte).toNat = (0 : RotorId).val ∧ (3 : Byte).toNat = (3 : RotorId).val)
      ∧ ((1 : Byte).toNat = 1 ∧ (96 : Byte).toNat = 96 ∧ town.mode ≠ .starting ∧ town.qualified = true ∧ town.settled)
      ∧ rotorAt town.tables 96 0 = none ∧ (rotorAt town.tables 50 0 = some 0 ∧ town.mode = .run ∧ (town.rotor 0).condition ≠ .halted)
      ∧ rotorAt yard.tables 50 0 = some 0 ∧ yard.mode ≠ .run :=
  ⟨⟨town_ready, by decide⟩, ⟨by decide, by decide, by decide, by decide, ⟨rfl, by decide⟩⟩, by decide⟩

/-- `carousel` in its last stretch, and after its stall limit. -/
theorem witness_RotorUpdateMovesEachRotor :
    carousel.rotors.updateTimer = some 20 ∧ (carousel.rotorEntry 3).enabled = false
      ∧ ((carousel.rotorEntry 0).enabled = true ∧ (carousel.rotor 0).condition.isTurning = true ∧ 0 < (carousel.rotor 0).step
        ∧ (carousel.rotor 0).runTime + 20 ≤ (carousel.rotorEntry 0).stallLimit)
      ∧ let s := carousel.updRotor 0 fun x => { x with runTime := 19981 }
        0 < (s.rotor 0).step ∧ (s.rotorEntry 0).stallLimit < (s.rotor 0).runTime + 20 := by decide

/-- The edge at a rotor that stops at it, at one that runs on, at a HOMING one, and at one that does not turn. -/
theorem witness_IndexEdgeTakesTheLap :
    let s := filtering 2 true carousel
    let creeping := s.updRotor 0 fun x => { x with step := 12 }
    let homing := s.updRotor 0 fun x => { x with condition := .homing, pendingTarget := some 1, indexSeen := false }
    ((s.sensor 2).timer = some 30 ∧ (s.sensorEntry 2).function = .index 0 ∧ (s.sensor 2).raw = true ∧ (s.sensor 2).filtered = false)
      ∧ ((s.rotorEntry 0).enabled = true ∧ (s.rotorEntry 0).indexEntry = 2 ∧ (s.rotor 0).condition.isTurning = true
        ∧ s.mode ≠ .starting ∧ s.cues.pendingEvents.length < 31)
      ∧ ((s.rotor 0).indexSeen = true ∧ 0 < (s.rotor 0).runTime) ∧ ¬ (homing.rotor 0).indexSeen = true
      ∧ ((homing.rotor 0).condition = .homing ∧ (homing.rotor 0).pendingTarget = some 1)
      ∧ ((creeping.rotor 0).condition = .stopping ∧ (creeping.rotor 0).step ≤ (creeping.rotorEntry 0).creepStep)
      ∧ (¬ ((s.rotor 0).condition = .stopping ∧ (s.rotor 0).step ≤ (s.rotorEntry 0).creepStep) ∧ (s.rotor 0).condition ≠ .homing)
      ∧ (let u := filtering 2 true town
         (u.sensor 2).timer = some 30 ∧ (u.sensorEntry 2).function = .index 0 ∧ (u.rotor 0).condition.isTurning = false) := by decide

/-- `town` with a BUTTON event of cue 0's trigger waiting, and with the CUE_FIRED that cue 1 listens to. -/
def waiting (v : CueEvent) : State := { town with cues := { town.cues with pendingEvents := [v] } }

/-- One cue listens to the event and no other entry names it; a cue that listens in each mode and stage, and one that does not. -/
theorem witness_EventIsJudgedByModeAndStage :
    (let s := waiting (deviceEvent (.button 1))
     s.cues.pendingEvents = [deviceEvent (.button 1)]
       ∧ ∀ j : CueId, j ≠ 0 → (s.cueEntry j).enabled = false ∨ CueTrigger.button 1 = .cueFired j
           ∨ ((s.cueEntry j).triggerA ≠ .button 1 ∧ (s.cueEntry j).triggerB ≠ some (.button 1)))
      ∧ (let s := waiting { trigger := .cueFired 0, depth := 4, origin := .button }
         ∀ j : CueId, j ≠ 1 → (s.cueEntry j).enabled = false ∨ CueTrigger.cueFired 0 = .cueFired j
           ∨ ((s.cueEntry j).triggerA ≠ .cueFired 0 ∧ (s.cueEntry j).triggerB ≠ some (.cueFired 0)))
      ∧ (∀ p ∈ [(CueMode.countA, CueStage.waitA), (.either, .waitA), (.aThenB, .waitA), (.aThenB, .waitB), (.aCountThenB, .waitA),
            (.aCountThenB, .waitB), (.bothWithin, .waitA), (.bothWithin, .waitB)],
          let s := { town with
            tables := { layout with cues := layout.cues.set 0 { layout.cues[0] with mode := p.1 } }
            cues := { town.cues with progress := town.cues.progress.set 0 { town.cue 0 with stage := p.2, openHalf := some .b } } }
          (s.cueEntry 0).enabled = true ∧ (s.cueEntry 0).mode = p.1 ∧ (s.cue 0).stage = p.2 ∧ (s.cueEntry 0).triggerA = .button 1
            ∧ CueTrigger.button 1 ≠ .cueFired 0 ∧ (s.cue 0).openHalf = some .b)
      ∧ (town.cueEntry 63).enabled = false := by decide

/-- Cue 1 has a selector that names cue 0, and none names cue 1: the two sides of the limit at depth 4. -/
theorem witness_CueFireCarriesOutTheCue :
    ((town.cueEntry 1).enabled = true ∧ (town.cueEntry 1).triggerB = some (.cueFired 0)
        ∧ ∀ j : CueId, (town.cueEntry j).triggerA ≠ .cueFired 1 ∧ (town.cueEntry j).triggerB ≠ some (.cueFired 1))
      ∧ town.ready ∧ 63 < (64 : Byte).toNat ∧ (63 : Byte).toNat = (63 : CueId).val ∧ (town.cueEntry 63).enabled = false
      ∧ (0 : Byte).toNat = (0 : CueId).val ∧ (town.cueEntry 0).enabled = true
      ∧ let e : CueEntry := { town.cueEntry 0 with actions := [.enableCue 0, .disableCue 0] }
        (e.actions.filter fun d => d = .enableCue 0 ∨ d = .disableCue 0).getLast? = some (.disableCue 0)
          ∧ ¬ ((town.cueEntry 0).actions.filter fun d => d = .enableCue 0 ∨ d = .disableCue 0).getLast? = some (.disableCue 0) :=
  ⟨by decide, town_ready, by decide⟩

/-- RUN and HOLD; a request to cancel and none; a DISPATCH refused, one that waits in HOLD, and one that is granted. -/
theorem witness_CueActionsFollowTheirOwnersRules :
    let q : RouteRequest := { train := 0, route := 0, waitLimit := 600, source := .buttonCue, waitTimer := some 600000 }
    (town.settled ∧ town.mode = .run) ∧ (yard.settled ∧ yard.mode ≠ .run ∧ (yard.rotorEntry 0).enabled = true)
      ∧ requestOfTrain town 7 = none ∧ (working.settled ∧ (requestOfTrain working 0).isSome = true) ∧ (town.routeEntry 31).enabled = false
      ∧ (∀ s ∈ [yard, clearTown], (s.routeEntry 0).enabled = true ∧ 600 ≤ 600 ∧ (s.train 0).condition.isLocated = true
          ∧ requestOfTrain s 0 = none
          ∧ ((s.path 0).reserved.getLast?.or (s.path 0).occupied.head?) = some (s.routeEntry 0).start)
      ∧ clearTown.trackSafe ∧ clearTown.settled ∧ clearTown.interlock.queue = [] ∧ grantable clearTown q = true
      ∧ ((clearTown.routeEntry 0).turnouts.map Prod.fst).Nodup := by
  unfold State.settled
  exact ⟨by decide, by decide, by decide, by decide, by decide, by decide, clearTown_trackSafe, by decide, by decide, by decide, by decide⟩

theorem witness_CueRequestsActOnOneCue :
    town.ready ∧ 63 < (64 : Byte).toNat ∧ (63 : Byte).toNat = (63 : CueId).val := ⟨town_ready, by decide⟩

/-! ## Witnesses: Chapters 9 and 10 -/

/-- One frame for each clause of the sorting at F-in and S-in. -/
theorem witness_FramesAreSortedAndScreened :
    (judge [] = .formatError ∧ judge [0, 126, 0x70, 0, 0, 0] = .checkError)
      ∧ (∀ f ∈ [({ dest := 0, src := 0, kind := kindMgmt, payload := [] } : Frame), { dest := 0, src := 126, kind := kindDrive, payload := [] },
            { dest := 97, src := 126, kind := kindMgmt, payload := [] }, { dest := 126, src := 126, kind := kindMgmt, payload := [] },
            { dest := 127, src := 0, kind := kindAllStop, payload := [] }, { dest := 96, src := 126, kind := kindLevel, payload := [] },
            { dest := 0, src := 97, kind := kindSense, payload := [] }, { dest := 0, src := 96, kind := kindReply, payload := [] }],
          judge f.wire = .good f)
      ∧ (∃ f, showFrame (.hostSenseRequest 127 []) = some f ∧ f.dest = 127)
      ∧ (∃ f, showFrame (.hostSwitch 96 [0, 0]) = some f ∧ f.dest.toNat = 96 ∧ f.payload.length = 2)
      ∧ (∃ f, showFrame (.hostDrive 1 [0, 0]) = some f ∧ f.dest.toNat = 1 ∧ f.payload.length ≠ 3)
      ∧ (∃ f, showFrame (.hostRotor 127 [0, 0, 0]) = some f ∧ f.dest = 127 ∧ f.payload.length = 3)
      ∧ (∃ f, showFrame (.hostUnknownKindFrame 1 kindReply []) = some f ∧ f.kind = kindReply)
      ∧ (State.reset.settled ∧ State.reset.mode = .starting) ∧ (town.settled ∧ town.mode ≠ .starting ∧ town.field.pass.length < 32)
      ∧ silent.qualified = false
      ∧ let s := { town with field := { town.field with pass := List.replicate 32 senseRequestFrame } }
        s.settled ∧ s.mode ≠ .starting ∧ 32 ≤ s.field.pass.length := by
  unfold State.settled
  refine ⟨by decide +kernel, by decide +kernel, ⟨_, rfl, rfl⟩, ⟨_, rfl, rfl, rfl⟩, ⟨_, rfl, rfl, by decide⟩, ⟨_, rfl, rfl, rfl⟩, ⟨_, rfl, rfl⟩,
    by decide, by decide, by decide, by decide⟩

theorem witness_RequestsWaitAndAreCheckedInOrder :
    (let s := { town with mgmt := { town.mgmt with intake := List.replicate 4 [0, 5] } }
     4 ≤ s.mgmt.intake.length)
      ∧ (town.mgmt.intake.length < 4 ∧ 4 ≤ (withReplies 4 town).repliesWaiting)
      ∧ ((withReplies 3 town).mgmt.intake = [] ∧ (withReplies 3 town).repliesWaiting < 4)
      ∧ (35 ≤ (35 : Byte).toNat ∧ (34 : Byte).toNat ≤ 34 ∧ State.reset.mode = .starting ∧ (34 : Byte) ≠ 1 ∧ (34 : Byte) ≠ 5)
      ∧ (town.mode ≠ .starting ∧ requestOf 34 [0] = none ∧ (34 : Byte) ≠ 3 ∧ (34 : Byte) ≠ 14)
      ∧ let s := { withReplies 4 town with
          mgmt := { town.mgmt with intake := [[0, 5]] }, link := { (withReplies 4 town).link with transmitting := some (replyFrame 0 .ok []) } }
        s.link.transmitting = some (replyFrame 0 .ok []) ∧ s.mgmt.intake = [[0, 5]] := by decide

/-- An EVENT masked, one with room, and one refused at 28 waiting frames. -/
theorem witness_RequestsWaitAndAreCheckedInOrder_events :
    ({ layout with mask := 2 }).mask.getLsbD EventKind.loopUp.code = true ∧ layout.mask.getLsbD EventKind.loopUp.code = false
      ∧ (town.link.upstream.filter fun g => g.kind ≠ 0x71).length < 28
      ∧ ¬ (fullUpstream.link.upstream.filter fun g => g.kind ≠ 0x71).length < 28 := by decide

/-- R180 leaves the length of a WRITE TABLE and of a LOCATE to R170 and R63, whose checks come in their own order. -/
theorem test_short_requests_are_judged_by_their_own_rules :
    (town.mode = .run ∧ runPayload [7, 3, 0] town = reply 7 .wrongMode [] town ∧ runPayload [7, 3, 7] town = reply 7 .badLength [] town)
      ∧ runPayload [7, 3, 14] town = reply 7 .badValue [] town ∧ runPayload [7, 3] town = reply 7 .badLength [] town
      ∧ runPayload [7, 14] town = reply 7 .wrongMode [] town ∧ runPayload [7, 14] yard = reply 7 .badValue [] yard :=
  ⟨⟨rfl, rfl, rfl⟩, rfl, rfl, rfl, rfl⟩

theorem witness_ReadingRequestsAnswerWhatStands :
    (State.reset.mgmt.intake = [] ∧ State.reset.repliesWaiting < 4)
      ∧ ((withReplies 3 town).mgmt.intake = [] ∧ (withReplies 3 town).repliesWaiting < 4 ∧ (withReplies 3 town).mode ≠ .starting)
      ∧ 7 ≤ (7 : Byte).toNat ∧ TableId.ofCode (14 : Byte).toNat = none ∧ TableId.ofCode (13 : Byte).toNat = some .mask
      ∧ (StateBlock.ofCode (1 : Byte).toNat = some .loop ∧ StateBlock.subjects .loop = none) ∧ StateBlock.ofCode (14 : Byte).toNat = none
      ∧ StateBlock.ofCode (13 : Byte).toNat = some .requests ∧ StateBlock.subjects .requests = some 8 := by decide

/-- A table code, its table, the last index of it and the bytes of an entry. -/
def entryOfEachTable : List (Byte × TableId × Byte × List Byte) :=
  [(0, .block, 47, defaultBlock.encode), (1, .turnout, 15, defaultTurnout.encode), (2, .route, 31, layout.routes[0].encode),
    (3, .train, 7, defaultTrain.encode), (4, .sensor, 127, defaultSensor.encode), (5, .loop, 0, defaultLoop.encode), (6, .policy, 95, [5]),
    (7, .patch, 191, defaultPatch.encode), (8, .sky, 0, encodeSky skyCurve), (9, .ambient, 0, encodeAmbient defaultTables.ambient),
    (10, .clock, 0, layout.clock.encode), (11, .rotor, 3, defaultRotor.encode), (12, .cue, 63, layout.cues[0].encode), (13, .mask, 0, [0, 0, 0, 1])]

/-- The hypotheses of each clause, and of the own checks of each table a request of one entry, the last one where it is accepted. -/
theorem witness_WritesAreCheckedThenApplied :
    (yard.ready ∧ yard.store.writing = none ∧ yard.mode = .hold ∧ TableId.ofCode (14 : Byte).toNat = none)
      ∧ (TableId.ofCode (0 : Byte).toNat = some .block ∧ TableId.isSafety .block = true ∧ town.mode ≠ .hold)
      ∧ (TableId.entries .block ≤ (48 : Byte).toNat ∧ (47 : Byte).toNat < TableId.entries .block
        ∧ TableId.entries .block < (47 : Byte).toNat + 12 / 6)
      ∧ (writeTable 0 0 [] yard).1 = .badLength
      ∧ (BlockEntry.decode [0, 0, 0, 0, 0, 0] = none ∧ BlockEntry.decode defaultBlock.encode = some defaultBlock
        ∧ (yard.block 0).holding.isSome = true ∧ (yard.block 47).holding = none)
      ∧ (PatchEntry.decode defaultPatch.encode = some defaultPatch ∧ defaultPatch.encode.length = 14)
      ∧ ({ yard with store := { yard.store with writing := some layout } }).store.writing.isSome = true
      ∧ ∀ p ∈ entryOfEachTable, TableId.ofCode p.1.toNat = some p.2.1 ∧ p.2.2.2 ≠ [] ∧ p.2.2.2.length % p.2.1.entrySize p.2.2.2 = 0
          ∧ p.2.2.1.toNat + p.2.2.2.length / p.2.1.entrySize p.2.2.2 ≤ p.2.1.entries :=
  ⟨⟨yard_ready, by decide⟩, by decide⟩

/-- A write of each table that is accepted. -/
theorem witness_AnAcceptedEntryIsReadBack :
    ∀ p ∈ entryOfEachTable, TableId.ofCode p.1.toNat = some p.2.1 ∧ p.2.2.2.length = p.2.1.entrySize p.2.2.2
      ∧ (writeTable p.1 p.2.2.1 p.2.2.2 empty).1 = .ok := by decide +kernel

theorem witness_AnAcceptedEntryIsReadBack_premises :
    empty.trackSafe ∧ empty.interlock.oneRequestEach ∧ empty.ready ∧ (∃ t, writeTable 5 0 [50, 4, 8] empty.received = (.ok, t))
      ∧ ∃ t, writeTable 5 0 [50, 4] empty.received = (.badLength, t) :=
  ⟨empty_trackSafe, by unfold Interlocking.oneRequestEach; decide, empty_ready, ⟨_, rfl⟩, ⟨_, rfl⟩⟩

theorem witness_SetModeMovesBetweenHoldAndRun :
    (town.ready ∧ town.mode = .run ∧ ∀ x, (town.train x).step = 0)
      ∧ (yard.ready ∧ yard.mode = .hold ∧ yard.qualified = true) ∧ (held.ready ∧ held.qualified = false)
      ∧ (let s := { update1 with mgmt := { mode := .holding, intake := [] } }
         s.ready ∧ s.mode = .holding)
      ∧ (let s := { queuedTown with mgmt := { mode := .hold, intake := [] } }
         s.ready ∧ s.mode = .hold ∧ s.qualified = true ∧ s.interlock.queue ≠ [])
      ∧ (update1.ready ∧ ¬ ∀ x, (update1.train x).step = 0) ∧ 2 ≤ (2 : Byte).toNat :=
  ⟨⟨town_ready, rfl, by decide⟩, ⟨yard_ready, rfl, rfl⟩, ⟨held_ready, by decide⟩,
    ⟨⟨rfl, by decide, by decide, ⟨rfl, by decide⟩, by unfold State.stillTrainsStand; decide⟩, rfl⟩,
    ⟨⟨rfl, by decide, by decide, ⟨rfl, by decide⟩, by unfold State.stillTrainsStand; decide⟩, rfl, rfl, by decide⟩,
    ⟨⟨rfl, by decide, by decide, ⟨rfl, by decide⟩, by unfold State.stillTrainsStand; decide⟩, by decide⟩, by decide⟩

theorem witness_StoreWritesACopyOfTheTables :
    town.ready ∧ town.store.writing = none ∧ ({ town with store := { town.store with writing := some layout } }).store.writing = some layout :=
  ⟨town_ready, rfl, rfl⟩

/-- `yard` with a VALID stored image. -/
def stored : State := { yard with store := { yard.store with image := { tables := layout, crcMatches := true, mark := true } } }

theorem witness_RestartAndRestoreResetThePart :
    (town.ready ∧ town.store.writing = none ∧ town.store.loading = none ∧ town.mode ≠ .hold)
      ∧ (yard.ready ∧ yard.mode = .hold ∧ yard.store.image.mark = false)
      ∧ (stored.ready ∧ stored.store.writing = none ∧ stored.mode = .hold ∧ stored.store.image.mark = true
        ∧ stored.store.image.crcMatches = true)
      ∧ ({ town with store := { town.store with writing := some layout } }).store.writing.isSome = true :=
  ⟨⟨town_ready, rfl, rfl, by decide⟩, ⟨yard_ready, rfl, rfl⟩,
    ⟨⟨rfl, by decide, by decide, ⟨rfl, by decide⟩, by unfold State.stillTrainsStand; decide⟩, rfl, rfl, rfl, rfl⟩, rfl⟩

theorem witness_PowerOnAndLoadsSetEveryValue :
    (State.reset.store.loading = some .startUp ∧ State.reset.store.image.mark = false)
      ∧ (let s := { stored with store := { stored.store with loading := some .startUp } }
         s.store.loading = some .startUp ∧ s.store.image.mark = true ∧ s.store.image.crcMatches = true)
      ∧ ({ stored with store := { stored.store with loading := some .restore } }).store.loading = some .restore := ⟨⟨rfl, rfl⟩, ⟨rfl, rfl, rfl⟩, rfl⟩

end Sys2Proof.Tests
end

section
/-!
PROOFS. The Loop Monitor's ECHO (R3, R4, R5): what the expiry of the interval timer does, and what a received ECHO does, good or stale.
-/

namespace Sys2Proof.Machine

variable (s : State)

/-! ## Sending (R3) -/

theorem exec_echoIntervalExpiry : exec .echoIntervalExpiry s = .next (sendEcho s) := rfl

/-- An ECHO purges nothing, so its offer is the queueing and the grant alone. -/
theorem offerUrgent_echo (f : Frame) :
    offerUrgent .echo f s = { s with field := FieldPort.grant { s.field with urgent := keyedOffer s.field.urgent .echo f } } := rfl

theorem echoFrame_eq (number : Byte) : echoFrame number = { dest := 0, src := 0, kind := 0x01, payload := [number] } := rfl

theorem sendEcho_of_running {d : Nat} (h : s.loop.intervalTimer = some d) :
    sendEcho s = offerUrgent .echo (echoFrame (s.loop.echoNumber + 1)) (s.updLoop fun l => { l with
      echoNumber := l.echoNumber + 1, echoOutstanding := true, intervalTimer := some s.tables.loop.echoInterval }) := by
  simp only [sendEcho, h, State.updLoop_loop]

/-- Settles O14: the expiry is `sendEcho`, and an ECHO's offer reaches nothing beyond the Urgent Queue and F-out. -/
theorem echoIntervalSendsTheNextEcho : Obligations.EchoIntervalSendsTheNextEcho := by
  intro s d running
  rw [exec_echoIntervalExpiry, sendEcho_of_running s running, offerUrgent_echo, echoFrame_eq]
  rfl

/-! ## Judging (R4) -/

theorem exec_echoReceived (payload : List Byte) :
    exec (.echoReceived payload) s = .next (takeEcho payload (s.countFIn PortTotals.addGood)) := rfl

theorem echoIsGood_iff (l : LoopMonitor) (payload : List Byte) :
    echoIsGood l payload = true ↔ l.echoOutstanding = true ∧ payload = [l.echoNumber] := by
  simp [echoIsGood]

theorem takeEcho_of_stale {payload : List Byte} (h : ¬ (s.loop.echoOutstanding = true ∧ payload = [s.loop.echoNumber])) :
    takeEcho payload s = s.dropFIn .staleEcho := by
  rw [← echoIsGood_iff] at h
  exact if_neg h

/-- The state in which a good ECHO is judged by Table 1-3: the frame counted as good and as consumed, and no ECHO outstanding. -/
def State.echoConsumed (s : State) : State :=
  ((s.countFIn PortTotals.addGood).updLoop fun l => { l with echoOutstanding := false }).countFIn PortTotals.addConsumed

theorem takeEcho_of_good {payload : List Byte} (h : s.loop.echoOutstanding = true ∧ payload = [s.loop.echoNumber]) :
    takeEcho payload (s.countFIn PortTotals.addGood) = goodEcho s.echoConsumed :=
  if_pos ((echoIsGood_iff _ _).mpr h)

theorem State.echoConsumed_get {part : Part} (h : part ∉ [Part.fIn, .loop]) : s.echoConsumed.get part = s.get part := by
  simp only [List.mem_cons, List.not_mem_nil, or_false, not_or] at h
  simp [State.echoConsumed, h]

/-! ## The state of the ring -/

@[simp] theorem setLoopState_loop (st : LoopState) : (setLoopState st s).loop = { s.loop with state := st } :=
  recomputeAllP_get (part := .loop) (by simp)

/-- R7 gives the Loop Monitor its new state; nothing that follows from it writes the loop's record again. -/
@[simp] theorem loopUp_loop : (loopUp s).loop = { s.loop with state := .qualified } := by
  have kept : (loopUp s).get .loop = (setLoopState .qualified s).get .loop := by simp [loopUp]
  exact kept.trans (setLoopState_loop s .qualified)

/-! ## A good echo, by the rows of Table 1-3 -/

/-- What Table 1-3 does for a good echo in every state: the error count lowered, the watchdog restarted, and the good count as given. -/
def State.creditEcho (s : State) (good : Nat) : State :=
  s.updLoop fun l => { l with errorCount := l.errorCount - 1, watchdog := some (2 * s.tables.loop.echoInterval), goodCount := good }

@[simp] theorem State.creditEcho_loop (good : Nat) : (s.creditEcho good).loop = { s.loop with
    errorCount := s.loop.errorCount - 1, watchdog := some (2 * s.tables.loop.echoInterval), goodCount := good } := rfl

@[simp] theorem State.creditEcho_get {part : Part} (good : Nat) (h : part ∉ [Part.loop]) :
    (s.creditEcho good).get part = s.get part :=
  updLoop_get _ h

theorem goodEcho_of_down (h : s.loop.state = .down) :
    goodEcho s = if s.tables.loop.passThreshold = 1 then loopUp (s.creditEcho 1) else setLoopState .proving (s.creditEcho 1) := by
  simp only [goodEcho, restartWatchdog, State.updLoop_loop, h]
  rfl

theorem goodEcho_of_proving (h : s.loop.state = .proving) :
    goodEcho s =
      if s.tables.loop.passThreshold ≤ s.loop.goodCount + 1 then loopUp (s.creditEcho (s.loop.goodCount + 1))
      else s.creditEcho (s.loop.goodCount + 1) := by
  simp only [goodEcho, restartWatchdog, State.updLoop_loop, h]
  rfl

theorem goodEcho_of_qualified (h : s.loop.state = .qualified) : goodEcho s = s.creditEcho s.loop.goodCount := by
  simp only [goodEcho, restartWatchdog, State.updLoop_loop, h]
  rfl

/-- R5: the Loop Monitor after a good echo. -/
theorem goodEcho_loop :
    (goodEcho s).loop = { s.loop with
      errorCount := s.loop.errorCount - 1
      watchdog := some (2 * s.tables.loop.echoInterval)
      goodCount := match s.loop.state with
        | .down => 1
        | .proving => s.loop.goodCount + 1
        | .qualified => s.loop.goodCount
      state := match s.loop.state with
        | .down => if s.tables.loop.passThreshold = 1 then .qualified else .proving
        | .proving => if s.tables.loop.passThreshold ≤ s.loop.goodCount + 1 then .qualified else .proving
        | .qualified => .qualified } := by
  cases h : s.loop.state with
  | down => rw [goodEcho_of_down s h]; split <;> simp
  | proving => rw [goodEcho_of_proving s h]; split <;> simp [h]
  | qualified => rw [goodEcho_of_qualified s h]; simp [h]

/-- A good echo that does not bring the ring to QUALIFIED reaches the loop's record and, by the recomputation of P (R76), the trains. -/
theorem goodEcho_get_of_not_qualifying {part : Part} (h : (goodEcho s).loop.state ≠ .qualified ∨ s.loop.state = .qualified)
    (hp : part ∉ [Part.loop, .trains]) : (goodEcho s).get part = s.get part := by
  simp only [List.mem_cons, List.not_mem_nil, or_false, not_or] at hp
  cases hs : s.loop.state with
  | down =>
    have noRise : s.tables.loop.passThreshold ≠ 1 := by
      intro rise
      simp [goodEcho_loop, hs, rise] at h
    rw [goodEcho_of_down s hs, if_neg noRise]
    simp [hp]
  | proving =>
    have noRise : ¬ s.tables.loop.passThreshold ≤ s.loop.goodCount + 1 := by
      intro rise
      simp [goodEcho_loop, hs, rise] at h
    rw [goodEcho_of_proving s hs, if_neg noRise]
    simp [hp]
  | qualified =>
    rw [goodEcho_of_qualified s hs]
    simp [hp]

/-- Settles O15: the stale case is one drop at F-in; the good case is `goodEcho` after the frame is counted, whose loop record and frame
are those of Table 1-3. -/
theorem echoIsJudgedByItsNumber : Obligations.EchoIsJudgedByItsNumber := by
  intro payload s
  constructor
  · intro stale
    rw [exec_echoReceived, takeEcho_of_stale (s.countFIn PortTotals.addGood) stale]
    rfl
  · intro outstanding number
    refine ⟨goodEcho s.echoConsumed, ?_, ?fIn, ?drops, ?loop, ?frame⟩
    · rw [exec_echoReceived, takeEcho_of_good s ⟨outstanding, number⟩]
    case fIn => exact goodEcho_get (s := s.echoConsumed) (part := .fIn) (by simp)
    case drops => exact goodEcho_get (s := s.echoConsumed) (part := .fInDrops) (by simp)
    case loop => exact goodEcho_loop s.echoConsumed
    case frame =>
      intro notQualifying part hp
      simp only [List.mem_cons, List.not_mem_nil, or_false, not_or] at hp
      calc (goodEcho s.echoConsumed).get part
        _ = s.echoConsumed.get part := goodEcho_get_of_not_qualifying s.echoConsumed notQualifying (by simp [hp])
        _ = s.get part := s.echoConsumed_get (by simp [hp])

end Sys2Proof.Machine
end

section
/-!
PROOFS. Shared rules for the requests on trains, turnouts and blocks: how a management request that arrives in a ready state reaches its
rule (R163, R166, R167), how an index argument is read, and what leaves nothing due (R53, R82).
-/

namespace Sys2Proof.Machine

variable (s : State)

/-! ## A record is what its piece of the state holds -/

theorem State.block_eq_of_get {s u : State} (h : u.get .blocks = s.get .blocks) (b : BlockId) : u.block b = s.block b :=
  congrArg (fun v : Vector BlockState 48 => v[b]) h

theorem State.path_eq_of_get {s u : State} (h : u.get .paths = s.get .paths) (t : TrainId) : u.path t = s.path t :=
  congrArg (fun v : Vector TrainPath 8 => v[t]) h

theorem State.train_eq_of_get {s u : State} (h : u.get .trains = s.get .trains) (t : TrainId) : u.train t = s.train t :=
  congrArg (fun v : Vector TrainRecord 8 => v[t]) h

theorem State.blockEntry_eq_of_get {s u : State} (h : u.get .otherTables = s.get .otherTables) (b : BlockId) :
    u.blockEntry b = s.blockEntry b := by
  have blocks := congrArg Tables.blocks h
  exact congrArg (fun v : Vector BlockEntry 48 => v[b]) blocks

theorem State.trainEntry_eq_of_get {s u : State} (h : u.get .trainTable = s.get .trainTable) (t : TrainId) :
    u.trainEntry t = s.trainEntry t :=
  congrArg (fun v : Vector TrainEntry 8 => v[t]) h

theorem State.mode_eq_of_get {s u : State} (h : u.get .mode = s.get .mode) : u.mode = s.mode := h

/-! ## The counted arrival changes the totals of S-in alone -/

@[simp] theorem State.received_get {part : Part} (h : part ∉ [Part.sIn]) : s.received.get part = s.get part :=
  (countSIn_get (s := s.countSIn PortTotals.addGood) PortTotals.addConsumed h).trans (countSIn_get _ h)

theorem State.ready.received_settled {s : State} (h : s.ready) : s.received.settled := by
  obtain ⟨-, -, -, settled, -⟩ := h
  exact settled

theorem State.ready.notDue {s : State} (h : s.ready) : s.interlock.serviceDue = false := by
  obtain ⟨-, -, -, ⟨notDue, -⟩, -⟩ := h
  exact notDue

/-! ## Nothing due -/

/-- The state with the Route Queue no longer due for service. -/
def State.withoutService (s : State) : State := { s with interlock := { s.interlock with serviceDue := false } }

@[simp] theorem State.withoutService_mode : s.withoutService.mode = s.mode := rfl

@[simp] theorem State.withoutService_get {part : Part} (h : part ∉ [Part.serviceDue]) :
    s.withoutService.get part = s.get part :=
  withServiceDue_get false h

theorem State.withoutService_of_not_due {s : State} (h : s.interlock.serviceDue = false) : s.withoutService = s := by
  simp only [State.withoutService, ← h]

theorem reportHold_of_not_holding {s : State} (h : s.mode = .holding → allStepsZero s = false) : reportHold s = s := by
  refine if_neg fun ⟨holding, zero⟩ => ?_
  simp [h holding] at zero

theorem settle_of_settled {s : State} (h : s.settled) : settle s = s := by
  obtain ⟨notDue, holding⟩ := h
  simp [settle, reportHold_of_not_holding holding, serveIfDue, notDue]

theorem answer_of_settled {s : State} (tag : Byte) (status : Status) (h : s.settled) :
    answer tag (status, s) = reply tag status [] s := by
  simp only [answer, settle_of_settled h]

/-- R53: outside RUN the scan grants nothing. -/
theorem serveRequests_of_not_run {s : State} (qs : List RouteRequest) (h : s.mode ≠ .run) : serveRequests qs s = s := by
  induction qs with
  | nil => rfl
  | cons q qs ih =>
    have refused : grantable s q = false := by simp [grantable, h]
    simpa [serveRequests, refused] using ih

theorem serveIfDue_of_not_run {s : State} (h : s.mode ≠ .run) : serveIfDue s = s.withoutService := by
  unfold serveIfDue
  split
  · exact serveRequests_of_not_run _ h
  · next notDue => exact (State.withoutService_of_not_due (by simpa using notDue)).symm

/-- In HOLD a service that is due finds no grantable request. -/
theorem settle_of_hold {s : State} (h : s.mode = .hold) : settle s = s.withoutService := by
  rw [settle, reportHold_of_not_holding (by simp [h]), serveIfDue_of_not_run (by simp [h])]

theorem State.withoutService_settled {s : State} (h : s.mode = .hold) : s.withoutService.settled :=
  ⟨rfl, by simp [h]⟩

/-! ## A request in a ready state -/

theorem knownRequestCode_requestCode (r : Request) : knownRequestCode (requestCode r) = true := by
  cases r <;> rfl

/-- R167: a request that its code and arguments spell passes the checks outside STARTING. -/
theorem runPayload_requestPayload {s : State} (tag : Byte) {r : Request} (started : s.mode ≠ .starting)
    (spelled : requestOf (requestCode r) (requestArgs r) = some r) :
    runPayload (requestPayload tag r) s = runRequest tag r s := by
  simp [runPayload, requestPayload, knownRequestCode_requestCode, started, spelled]

/-- R163, R166: the one request of the intake is taken while a REPLY finds a place. -/
theorem takeRequests_of_singleton {s : State} {p : List Byte} (waiting : s.mgmt.intake = [p])
    (room : s.repliesWaiting < Config.replyCapacity) :
    takeRequests s = runPayload p { s with mgmt := { s.mgmt with intake := [] } } := by
  simp [takeRequests, drainIntake, waiting, room]

/-- The state with a request as the one of its intake. -/
def State.withRequest (s : State) (p : List Byte) : State := { s with mgmt := { s.mgmt with intake := [p] } }

theorem State.withRequest_taken {s : State} (h : s.mgmt.intake = []) (p : List Byte) :
    { s.withRequest p with mgmt := { (s.withRequest p).mgmt with intake := [] } } = s := by
  simp only [State.withRequest, ← h]

/-- R157, R166: in a ready state a request is taken from the intake as it arrives. -/
theorem arriveMgmt_of_ready {s : State} (h : s.ready) (p : List Byte) : arriveMgmt p s = runPayload p s.received := by
  obtain ⟨noneWaiting, room, -⟩ := h
  have space : (s.countSIn PortTotals.addGood).mgmt.intake.length < Config.intakeCapacity := by
    simp [noneWaiting, Config.intakeCapacity]
  calc arriveMgmt p s
    _ = takeRequests (s.received.withRequest p) := by
      rw [arriveMgmt, offerIntake, if_pos space, State.countSIn_mgmt, noneWaiting]
      rfl
    _ = runPayload p { s.received.withRequest p with mgmt := { (s.received.withRequest p).mgmt with intake := [] } } :=
      takeRequests_of_singleton rfl room
    _ = runPayload p s.received := by rw [State.withRequest_taken (s := s.received) noneWaiting]

theorem arriveRequest_of_ready {s : State} (h : s.ready) (tag : Byte) {r : Request}
    (spelled : requestOf (requestCode r) (requestArgs r) = some r) :
    arriveMgmt (requestPayload tag r) s = runRequest tag r s.received := by
  have ⟨_, _, started, _⟩ := h
  rw [arriveMgmt_of_ready h, runPayload_requestPayload (s := s.received) tag started spelled]

/-! ## Index arguments -/

theorem finOf_byte {n : Nat} (hn : n ≤ 256) (i : Fin n) : finOf n (byte i.val).toNat = some i := by
  have small : i.val < 256 := by omega
  have read : (byte i.val).toNat = i.val := by simp [byte, Nat.mod_eq_of_lt small]
  simp [finOf, read]

theorem finOf_of_le {n k : Nat} (h : n ≤ k) : finOf n k = none := dif_neg (by omega)

theorem onIndex_byte {n : Nat} (hn : n ≤ 256) (i : Fin n) (f : Fin n → State → Status × State) :
    onIndex (byte i.val) f s = f i s := by
  simp only [onIndex, finOf_byte hn]

theorem onIndex_of_le {n : Nat} {b : Byte} (h : n ≤ b.toNat) (f : Fin n → State → Status × State) :
    onIndex b f s = (.badIndex, s) := by
  simp only [onIndex, finOf_of_le h]

theorem mapM_finOf_byte {n : Nat} (hn : n ≤ 256) (is : List (Fin n)) :
    ((is.map fun i => byte i.val).mapM fun b => finOf n b.toNat) = some is := by
  induction is with
  | nil => rfl
  | cons i is ih => simp [ih, finOf_byte hn]

theorem mapM_finOf_of_le {n : Nat} {bs : List Byte} (h : ∃ b ∈ bs, n ≤ b.toNat) :
    (bs.mapM fun b => finOf n b.toNat) = none := by
  induction bs with
  | nil => simp at h
  | cons b bs ih =>
    by_cases out : n ≤ b.toNat
    · simp [finOf_of_le out]
    · have later : ∃ c ∈ bs, n ≤ c.toNat := by simpa [out] using h
      simp [ih later]

end Sys2Proof.Machine
end

section
/-!
PROOFS. Blocks taken and given up: what a release makes of each block and leaves of the other trains (R47), and what a train's entry into
blocks as their occupier makes of them (R48, R62).
-/

namespace Sys2Proof.Machine

variable (s : State)

/-! ## Another train's record and path -/

theorem recomputeP_train_of_ne {t x : TrainId} (h : x ≠ t) : (recomputeP t s).train x = s.train x := by
  simp [recomputeP, h.symm]

theorem recount_train_of_ne {t x : TrainId} (h : x ≠ t) : (recount t s).train x = s.train x := by
  simp only [recount]
  split
  · rfl
  · rw [recomputeP_train_of_ne _ h]
    rfl

theorem recount_path_of_ne {t x : TrainId} (h : x ≠ t) : (recount t s).path x = s.path x := by
  simp only [recount]
  split
  · rfl
  · rw [State.path_eq_of_get (recomputeP_get t (by simp))]
    simp [h.symm]

/-! ## Release (R47) -/

/-- Steps 1 and 3 of R47 on the released block's own record. -/
def BlockState.released (e : BlockEntry) (x : BlockState) : BlockState :=
  { x with
    holding := none, intruded := false
    crossing := if e.crossing then .idle else x.crossing, warnTimer := if e.crossing then none else x.warnTimer }

@[simp] theorem BlockState.released_holding (e : BlockEntry) (x : BlockState) : (x.released e).holding = none := rfl

theorem BlockState.released_released (e : BlockEntry) (x : BlockState) : (x.released e).released e = x.released e := by
  cases h : e.crossing <;> simp [BlockState.released, h]

/-- Step 1 of R47: the train's lists without the block, and the block without holder and intrusion. -/
def freeBlock (t : TrainId) (b : BlockId) (s : State) : State :=
  (s.updPath t fun p => { p with occupied := p.occupied.filter (· ≠ b), reserved := p.reserved.filter (· ≠ b) }).updBlock b
    fun x => { x with holding := none, intruded := false }

/-- Step 2 of R47: the train's locked turnouts of the block unlocked. -/
def unlockTurnoutsOf (t : TrainId) (b : BlockId) (s : State) : State :=
  forAll (fun u s => if (s.turnout u).lock = some t && (s.turnoutEntry u).block = b then unlockTurnout u s else s) s

@[simp] theorem unlockTurnoutsOf_get {part : Part} (t : TrainId) (b : BlockId) (h : part ∉ [Part.turnouts, .serviceDue]) :
    (unlockTurnoutsOf t b s).get part = s.get part :=
  forAll_get fun u s => by rw [ite_get, unlockTurnout_get u h, ite_self]

theorem dropBlock_eq (t : TrainId) (b : BlockId) :
    dropBlock t b s =
      let u := unlockTurnoutsOf t b (freeBlock t b s)
      if (u.blockEntry b).crossing then u.updBlock b fun x => { x with crossing := .idle, warnTimer := none } else u := rfl

theorem dropBlock_block (t : TrainId) (b c : BlockId) :
    (dropBlock t b s).block c = if b = c then (s.block b).released (s.blockEntry b) else s.block c := by
  have entry : (unlockTurnoutsOf t b (freeBlock t b s)).blockEntry b = s.blockEntry b :=
    State.blockEntry_eq_of_get (unlockTurnoutsOf_get (freeBlock t b s) t b (by simp)) b
  have freed (i : BlockId) : (unlockTurnoutsOf t b (freeBlock t b s)).block i =
      if b = i then { s.block b with holding := none, intruded := false } else s.block i := by
    rw [State.block_eq_of_get (unlockTurnoutsOf_get _ t b (by simp))]
    exact State.block_updBlock _ b i _
  rw [dropBlock_eq]
  by_cases same : b = c
  · subst same
    cases crossing : (s.blockEntry b).crossing <;> simp [entry, freed, crossing, BlockState.released]
  · cases crossing : (s.blockEntry b).crossing <;> simp [entry, freed, crossing, same]

theorem dropBlock_blockEntry (t : TrainId) (b c : BlockId) : (dropBlock t b s).blockEntry c = s.blockEntry c :=
  State.blockEntry_eq_of_get (dropBlock_get t b (by simp)) c

theorem dropBlock_path_of_ne {t x : TrainId} (h : x ≠ t) (b : BlockId) : (dropBlock t b s).path x = s.path x := by
  have dropped : (dropBlock t b s).get .paths = (freeBlock t b s).get .paths := by simp [dropBlock_eq]
  rw [State.path_eq_of_get dropped]
  exact (State.path_updPath s t x _).trans (if_neg h.symm)

theorem dropBlocks_block (t : TrainId) (bs : List BlockId) (c : BlockId) :
    (bs.foldl (fun s b => dropBlock t b s) s).block c =
      if c ∈ bs then (s.block c).released (s.blockEntry c) else s.block c := by
  induction bs generalizing s with
  | nil => rfl
  | cons b bs ih =>
    rw [List.foldl_cons, ih, dropBlock_block, dropBlock_blockEntry]
    by_cases first : b = c
    · subst first
      simp [BlockState.released_released]
    · simp [first, Ne.symm first]

theorem dropBlocks_path_of_ne {t x : TrainId} (h : x ≠ t) (bs : List BlockId) :
    (bs.foldl (fun s b => dropBlock t b s) s).path x = s.path x := by
  induction bs generalizing s with
  | nil => rfl
  | cons b bs ih => rw [List.foldl_cons, ih, dropBlock_path_of_ne s h]

theorem releaseBlocks_cons (t : TrainId) (b : BlockId) (bs : List BlockId) :
    releaseBlocks t (b :: bs) s = markService (recount t ((b :: bs).foldl (fun s b => dropBlock t b s) s)) := rfl

/-- R47: every block of the list is given up as steps 1 and 3 say, and no other block changes. -/
theorem releaseBlocks_block (t : TrainId) (bs : List BlockId) (c : BlockId) :
    (releaseBlocks t bs s).block c = if c ∈ bs then (s.block c).released (s.blockEntry c) else s.block c := by
  cases bs with
  | nil => rfl
  | cons b bs =>
    rw [releaseBlocks_cons, ← dropBlocks_block]
    exact State.block_eq_of_get (u := recount t _) (recount_get t (by simp)) c

theorem releaseBlocks_path_of_ne {t x : TrainId} (h : x ≠ t) (bs : List BlockId) :
    (releaseBlocks t bs s).path x = s.path x := by
  cases bs with
  | nil => rfl
  | cons b bs => exact (recount_path_of_ne _ h).trans (dropBlocks_path_of_ne s h _)

theorem releaseBlocks_train_of_ne {t x : TrainId} (h : x ≠ t) (bs : List BlockId) :
    (releaseBlocks t bs s).train x = s.train x := by
  cases bs with
  | nil => rfl
  | cons b bs =>
    have dropped : ((b :: bs).foldl (fun s b => dropBlock t b s) s).train x = s.train x :=
      State.train_eq_of_get (foldl_get _ fun u b => dropBlock_get (s := u) t b (by simp)) x
    exact (recount_train_of_ne _ h).trans dropped

/-! ## Entry as occupier (R48) -/

/-- A block's record once a train holds it OCCUPIED. -/
def BlockState.taken (e : BlockEntry) (t : TrainId) (x : BlockState) : BlockState :=
  { x with
    holding := some (t, .occupied)
    crossing := if e.crossing then .active else x.crossing, warnTimer := if e.crossing then none else x.warnTimer }

theorem BlockState.taken_of_crossing {e : BlockEntry} (t : TrainId) (x : BlockState) (h : e.crossing = true) :
    (x.taken e t).crossing = .active ∧ (x.taken e t).warnTimer = none := by
  simp [BlockState.taken, h]

theorem BlockState.taken_taken (e : BlockEntry) (t : TrainId) (x : BlockState) : (x.taken e t).taken e t = x.taken e t := by
  cases h : e.crossing <;> simp [BlockState.taken, h]

/-- A block held OCCUPIED by a train, its crossing ACTIVE. -/
def takeBlock (t : TrainId) (b : BlockId) (s : State) : State :=
  activateCrossing b (s.updBlock b fun x => { x with holding := some (t, .occupied) })

@[simp] theorem takeBlock_get {part : Part} (t : TrainId) (b : BlockId) (h : part ∉ [Part.blocks]) :
    (takeBlock t b s).get part = s.get part :=
  (activateCrossing_get b h).trans (updBlock_get b _ h)

theorem takeBlock_block (t : TrainId) (b c : BlockId) :
    (takeBlock t b s).block c = if b = c then (s.block b).taken (s.blockEntry b) t else s.block c := by
  have entry (f : BlockState → BlockState) : (s.updBlock b f).blockEntry b = s.blockEntry b := rfl
  by_cases same : b = c
  · subst same
    cases crossing : (s.blockEntry b).crossing <;> simp [takeBlock, activateCrossing, entry, crossing, BlockState.taken]
  · cases crossing : (s.blockEntry b).crossing <;> simp [takeBlock, activateCrossing, entry, crossing, same]

theorem takeBlock_blockEntry (t : TrainId) (b c : BlockId) : (takeBlock t b s).blockEntry c = s.blockEntry c :=
  State.blockEntry_eq_of_get (takeBlock_get s t b (by simp)) c

/-- Each block of a list held OCCUPIED by a train. -/
def takeBlocks (t : TrainId) (bs : List BlockId) (s : State) : State := bs.foldl (fun s b => takeBlock t b s) s

@[simp] theorem takeBlocks_get {part : Part} (t : TrainId) (bs : List BlockId) (h : part ∉ [Part.blocks]) :
    (takeBlocks t bs s).get part = s.get part :=
  foldl_get _ fun u b => takeBlock_get u t b h

theorem takeBlocks_block (t : TrainId) (bs : List BlockId) (c : BlockId) :
    (takeBlocks t bs s).block c = if c ∈ bs then (s.block c).taken (s.blockEntry c) t else s.block c := by
  induction bs generalizing s with
  | nil => rfl
  | cons b bs ih =>
    rw [takeBlocks, List.foldl_cons, ← takeBlocks, ih, takeBlock_block, takeBlock_blockEntry]
    by_cases first : b = c
    · subst first
      simp [BlockState.taken_taken]
    · simp [first, Ne.symm first]

/-! ## Placing (R88) -/

theorem placeTrain_train_of_ne {t x : TrainId} (h : x ≠ t) : (placeTrain t s).train x = s.train x := by
  simp [placeTrain, h.symm]

theorem placeTrain_train_self (t : TrainId) :
    (placeTrain t s).train t = { s.train t with
      position := headLength s t, unseen := 0, carry := 0
      missAllowance := (s.trainEntry t).missDistance * 1000 + headLength s t
      condition := .stopped, step := 0, target := 0, guided := 0, accumulator := 0, ramp := .none, armed := false } := by
  simp [placeTrain]

theorem headLength_of_head {s : State} {t : TrainId} {b : BlockId} (h : (s.path t).occupied.head? = some b) :
    headLength s t = (s.blockEntry b).length * 1000 := by
  obtain ⟨tail, occupied⟩ := List.head?_eq_some_iff.mp h
  simp [headLength, occupied, blockLength]

end Sys2Proof.Machine
end

section
/-!
PROOFS. LOCATE (R63): its refusals in the rule's order, and the train placed in the named blocks (R88).
-/

namespace Sys2Proof.Machine

variable (s : State)

/-! ## The request -/

theorem exec_locate_of_ready {s : State} (h : s.ready) (tag train : Byte) (blocks : List Byte) :
    exec (.locate tag train blocks) s = .next (answer tag (runLocate train blocks s.received)) :=
  congrArg Host.Outcome.next (arriveRequest_of_ready h tag (r := .locate train blocks) rfl)

theorem runLocate_of_index_out_of_range {train : Byte} {blocks : List Byte}
    (h : 7 < train.toNat ∨ ∃ b ∈ blocks, 47 < b.toNat) : runLocate train blocks s = (.badIndex, s) := by
  rcases h with trainOut | blockOut
  · exact onIndex_of_le s trainOut _
  · simp only [runLocate, mapM_finOf_of_le (n := 48) blockOut, onIndex]
    split <;> rfl

theorem runLocate_of_indexes (t : TrainId) (bs : List BlockId) :
    runLocate (byte t.val) (bs.map fun b => byte b.val) s = locateTrain t bs s := by
  simp only [runLocate, onIndex_byte s (by decide : 8 ≤ 256), mapM_finOf_byte (by decide : 48 ≤ 256)]

/-- An outcome of LOCATE that leaves nothing due is answered as it stands. -/
theorem exec_locate {s u : State} (h : s.ready) (tag : Byte) {t : TrainId} {bs : List BlockId} {status : Status}
    (outcome : locateTrain t bs s.received = (status, u)) (nothingDue : u.settled) :
    exec (.locate tag (byte t.val) (bs.map fun b => byte b.val)) s = .next (reply tag status [] u) := by
  rw [exec_locate_of_ready h, runLocate_of_indexes, outcome, answer_of_settled tag status nothingDue]

/-! ## The outcomes of R63 -/

/-- The lists of blocks that R63 refuses with BAD_VALUE. -/
def Misnamed (bs : List BlockId) : Prop := bs = [] ∨ 4 < bs.length ∨ ¬ bs.Nodup

/-- What R63 refuses with NOT_AVAILABLE. -/
def State.cannotLocate (s : State) (t : TrainId) (bs : List BlockId) : Prop :=
  (s.train t).condition ≠ .lost
    ∨ ∃ b ∈ bs, (s.blockEntry b).enabled = false ∨ (s.block b).detection ≠ .occupied
        ∨ ∃ h, (s.block b).holding = some h ∧ h.1 ≠ t

/-- The train's old blocks released, and its path the named blocks. -/
def moveTo (t : TrainId) (bs : List BlockId) (s : State) : State :=
  (releaseBlocks t ((s.path t).occupied ++ (s.path t).reserved) s).updPath t fun _ =>
    { occupied := bs, reserved := [], authorised := 0 }

/-- The state after R63's placing, before what it leaves due is settled: the train moved to the named blocks, these held OCCUPIED by it, and
the train at the far end of its head. -/
def locatedIn (t : TrainId) (bs : List BlockId) (s : State) : State := placeTrain t (takeBlocks t bs (moveTo t bs s))

variable {s} {t : TrainId} {bs : List BlockId}

theorem misnamed_iff :
    (bs.isEmpty || decide (Config.maxOccupied < bs.length) || !decide bs.Nodup) = true ↔ Misnamed bs := by
  simp only [Bool.or_eq_true, List.isEmpty_iff, decide_eq_true_eq, Bool.not_eq_true', decide_eq_false_iff_not, or_assoc]
  rfl

theorem cannotLocate_iff :
    ((s.train t).condition ≠ .lost ∨
      bs.any (fun b => !(s.blockEntry b).enabled || decide ((s.block b).detection ≠ .occupied)
        || ((s.block b).holding.any fun h => h.1 ≠ t)) = true) ↔ s.cannotLocate t bs := by
  simp [State.cannotLocate, or_assoc, Option.any_eq_true]

theorem locateTrain_of_not_hold (mode : s.mode ≠ .hold) : locateTrain t bs s = (.wrongMode, s) := if_pos mode

theorem locateTrain_of_misnamed (mode : s.mode = .hold) (names : Misnamed bs) : locateTrain t bs s = (.badValue, s) := by
  rw [locateTrain, if_neg (not_not.mpr mode), if_pos (misnamed_iff.mpr names)]

theorem locateTrain_of_cannotLocate (mode : s.mode = .hold) (names : ¬ Misnamed bs) (cannot : s.cannotLocate t bs) :
    locateTrain t bs s = (.notAvailable, s) := by
  rw [locateTrain, if_neg (not_not.mpr mode), if_neg (misnamed_iff.not.mpr names), if_pos (cannotLocate_iff.mpr cannot)]

theorem locateTrain_of_accepted (mode : s.mode = .hold) (names : ¬ Misnamed bs) (can : ¬ s.cannotLocate t bs) :
    locateTrain t bs s = (.ok, settle (locatedIn t bs s)) := by
  rw [locateTrain, if_neg (not_not.mpr mode), if_neg (misnamed_iff.not.mpr names), if_neg (cannotLocate_iff.not.mpr can)]
  rfl

theorem not_misnamed (anyNamed : bs ≠ []) (few : bs.length ≤ 4) (distinct : bs.Nodup) : ¬ Misnamed bs := by
  simp [Misnamed, anyNamed, few, distinct]

theorem not_cannotLocate (lost : (s.train t).condition = .lost)
    (free : ∀ b ∈ bs, (s.blockEntry b).enabled = true ∧ (s.block b).detection = .occupied
      ∧ ∀ h, (s.block b).holding = some h → h.1 = t) : ¬ s.cannotLocate t bs := by
  rintro (notLost | ⟨b, named, disabled | notOccupied | ⟨h, held, other⟩⟩)
  · exact notLost lost
  all_goals obtain ⟨enabled, occupied, heldByTrain⟩ := free b named
  · simp [enabled] at disabled
  · exact notOccupied occupied
  · exact other (heldByTrain h held)

/-! ## The placed train -/

@[simp] theorem moveTo_get {part : Part} (h : part ∉ [Part.blocks, .turnouts, .paths, .serviceDue, .trains]) :
    (moveTo t bs s).get part = s.get part := by
  rw [moveTo, updPath_get t _ (by simp_all), releaseBlocks_get t _ h]

theorem moveTo_path (x : TrainId) :
    (moveTo t bs s).path x = if x = t then { occupied := bs, reserved := [], authorised := 0 } else s.path x := by
  rw [moveTo, State.path_updPath]
  by_cases same : x = t
  · simp [same]
  · rw [if_neg (Ne.symm same), if_neg same, releaseBlocks_path_of_ne s same]

theorem moveTo_block (c : BlockId) :
    (moveTo t bs s).block c =
      if c ∈ (s.path t).occupied ++ (s.path t).reserved then (s.block c).released (s.blockEntry c) else s.block c :=
  releaseBlocks_block s t _ c

theorem moveTo_train_of_ne {x : TrainId} (h : x ≠ t) : (moveTo t bs s).train x = s.train x :=
  releaseBlocks_train_of_ne s h _

theorem locatedIn_get {part : Part} (h : part ∉ [Part.blocks, .turnouts, .paths, .serviceDue, .trains]) :
    (locatedIn t bs s).get part = s.get part := by
  rw [locatedIn, placeTrain_get t (by simp_all), takeBlocks_get _ t bs (by simp_all), moveTo_get h]

theorem locatedIn_path (x : TrainId) :
    (locatedIn t bs s).path x = if x = t then { occupied := bs, reserved := [], authorised := 0 } else s.path x := by
  rw [← moveTo_path]
  exact State.path_eq_of_get (by simp [locatedIn]) x

/-- A block that the train held is first released, and a named block then taken. -/
theorem locatedIn_block (c : BlockId) :
    (locatedIn t bs s).block c =
      if c ∈ bs then ((moveTo t bs s).block c).taken (s.blockEntry c) t else (moveTo t bs s).block c := by
  have entry : (moveTo t bs s).blockEntry c = s.blockEntry c := State.blockEntry_eq_of_get (moveTo_get (by simp)) c
  rw [← entry, ← takeBlocks_block]
  exact State.block_eq_of_get (placeTrain_get t (by simp)) c

theorem locatedIn_block_of_named {c : BlockId} (h : c ∈ bs) :
    ((locatedIn t bs s).block c).holding = some (t, .occupied)
      ∧ ((s.blockEntry c).crossing = true →
          ((locatedIn t bs s).block c).crossing = .active ∧ ((locatedIn t bs s).block c).warnTimer = none) := by
  rw [locatedIn_block, if_pos h]
  exact ⟨rfl, BlockState.taken_of_crossing t _⟩

theorem locatedIn_holding_of_not_named {c : BlockId} (noReserved : (s.path t).reserved = []) (h : c ∉ bs) :
    ((locatedIn t bs s).block c).holding = if c ∈ (s.path t).occupied then none else (s.block c).holding := by
  rw [locatedIn_block, if_neg h, moveTo_block, noReserved, List.append_nil, apply_ite BlockState.holding,
    BlockState.released_holding]

theorem locatedIn_train_of_ne {x : TrainId} (h : x ≠ t) : (locatedIn t bs s).train x = s.train x := by
  rw [locatedIn, placeTrain_train_of_ne _ h, State.train_eq_of_get (takeBlocks_get _ t bs (by simp)), moveTo_train_of_ne h]

/-- R88: the train stands still, with no distance carried or unseen, and auto-location disarmed. -/
theorem locatedIn_stands :
    ((locatedIn t bs s).train t).condition = .stopped ∧ ((locatedIn t bs s).train t).step = 0
      ∧ ((locatedIn t bs s).train t).target = 0 ∧ ((locatedIn t bs s).train t).guided = 0
      ∧ ((locatedIn t bs s).train t).accumulator = 0 ∧ ((locatedIn t bs s).train t).ramp = .none
      ∧ ((locatedIn t bs s).train t).carry = 0 ∧ ((locatedIn t bs s).train t).unseen = 0
      ∧ ((locatedIn t bs s).train t).armed = false := by
  simp [locatedIn, placeTrain_train_self]

/-- R88: the train stands at the far end of the first named block. -/
theorem locatedIn_position {b : BlockId} (h : bs.head? = some b) :
    ((locatedIn t bs s).train t).position = (s.blockEntry b).length * 1000
      ∧ ((locatedIn t bs s).train t).missAllowance =
          (s.trainEntry t).missDistance * 1000 + (s.blockEntry b).length * 1000 := by
  have path : (takeBlocks t bs (moveTo t bs s)).path t = { occupied := bs, reserved := [], authorised := 0 } := by
    rw [State.path_eq_of_get (takeBlocks_get _ t bs (by simp)), moveTo_path, if_pos rfl]
  have blockEntry : (takeBlocks t bs (moveTo t bs s)).blockEntry b = s.blockEntry b :=
    State.blockEntry_eq_of_get (by simp) b
  have trainEntry : (takeBlocks t bs (moveTo t bs s)).trainEntry t = s.trainEntry t :=
    State.trainEntry_eq_of_get (by simp) t
  rw [locatedIn, placeTrain_train_self, headLength_of_head (b := b) (by rw [path]; exact h), blockEntry, trainEntry]
  exact ⟨rfl, rfl⟩

/-- R62: a LOST train has no reserved block. -/
theorem State.trackSafe.reserved_of_lost (safe : s.trackSafe) (lost : (s.train t).condition = .lost) : (s.path t).reserved = [] := by
  obtain ⟨-, -, ⟨reserved, -⟩, -⟩ := safe
  exact reserved t (by simp [lost, TrainCondition.isLocated])

/-- What LOCATE leaves due is settled without a grant, so that beyond the arrival's counters only the track and the trains change. -/
theorem locatedIn_onlyChanges (notDue : s.interlock.serviceDue = false) :
    OnlyChanges [.sIn, .blocks, .turnouts, .paths, .trains] s (locatedIn t bs s.received).withoutService := by
  intro part outside
  by_cases service : part = .serviceDue
  · subst service
    exact notDue.symm
  · rw [State.withoutService_get _ (by simp_all), locatedIn_get (by simp_all), State.received_get _ (by simp_all)]

/-- Settles O28: each refusal is a branch of `locateTrain` that changes nothing; the accepted branch leaves the train `locatedIn` the named
blocks, and in HOLD the service that the release makes due grants nothing. -/
theorem locatePlacesALostTrain : Obligations.LocatePlacesALostTrain := by
  refine ⟨fun tag t bs s ready safe => ⟨?wrongMode, ?badValue, ?notAvailable, ?placed⟩, ?badIndex⟩
  case wrongMode =>
    intro mode
    exact exec_locate ready tag (locateTrain_of_not_hold mode) ready.received_settled
  case badValue =>
    intro mode names
    exact exec_locate ready tag (locateTrain_of_misnamed mode names) ready.received_settled
  case notAvailable =>
    intro mode anyNamed few distinct cannot
    exact exec_locate ready tag (locateTrain_of_cannotLocate mode (not_misnamed anyNamed few distinct) cannot)
      ready.received_settled
  case placed =>
    intro mode anyNamed few distinct lost free
    have hold : (locatedIn t bs s.received).mode = .hold :=
      (State.mode_eq_of_get (locatedIn_get (s := s.received) (by simp))).trans mode
    have accepted : locateTrain t bs s.received = (.ok, (locatedIn t bs s.received).withoutService) := by
      rw [locateTrain_of_accepted (s := s.received) mode (not_misnamed anyNamed few distinct) (not_cannotLocate lost free),
        settle_of_hold hold]
    obtain ⟨stopped, step, target, guided, accumulator, ramp, carry, unseen, disarmed⟩ :=
      locatedIn_stands (s := s.received) (t := t) (bs := bs)
    exact ⟨_, exec_locate ready tag accepted (State.withoutService_settled hold), locatedIn_path,
      fun b => locatedIn_block_of_named, fun b => locatedIn_holding_of_not_named (safe.reserved_of_lost lost),
      fun x => locatedIn_train_of_ne, stopped, step, target, guided, accumulator, ramp, carry, unseen, disarmed,
      fun b => locatedIn_position, locatedIn_onlyChanges ready.notDue⟩
  case badIndex =>
    intro tag train blocks s ready out
    rw [exec_locate_of_ready ready, runLocate_of_index_out_of_range _ out, answer_of_settled _ _ ready.received_settled]

end Sys2Proof.Machine
end

section
/-!
PROOFS. The permitted step (R72): the braking distance and its ramp (R71), the largest step of each term, and P as the greatest safe step.
-/

namespace Sys2Proof.Machine

/-! ## The braking distance (R71) -/

theorem brakingDistance_zero (k d : Nat) : brakingDistance k d 0 = 0 := by simp [brakingDistance]

theorem brakingDistance_monotone (k d : Nat) : Monotone (brakingDistance k d) := by
  intro n m rises
  unfold brakingDistance
  gcongr

theorem trainBraking_monotone (s : State) (t : TrainId) : Monotone (trainBraking s t) :=
  brakingDistance_monotone _ _

/-- Twice the quarter-micrometres of a ramp from step `n` to 0 that stays `r` updates at each step: Gauss's sum. -/
theorem two_mul_rampSum (k r n : Nat) :
    2 * ((List.range (n + 1)).map fun j => r * (j * k * 5)).sum = r * k * 5 * (n * (n + 1)) := by
  induction n with
  | zero => simp
  | succ n ih =>
    rw [List.range_succ, List.map_append, List.sum_append, Nat.mul_add, ih]
    simp only [List.map_cons, List.map_nil, List.sum_cons, List.sum_nil]
    ring

/-- R71: where D divides 50, the division by D is the number of updates at each step, and only the quarters are rounded down. -/
theorem brakingDistance_eq_rampSum (k n : Nat) {d : Nat} (positive : 0 < d) (divides : d ∣ 50) :
    brakingDistance k d n = ((List.range (n + 1)).map fun j => 50 / d * (j * k * 5)).sum / 4 := by
  obtain ⟨r, updates⟩ := divides
  have perStep : 50 / d = r := Nat.div_eq_of_eq_mul_right positive updates
  rw [perStep, brakingDistance, Nat.mul_comm 4 d, ← Nat.div_div_eq_div_mul]
  congr 1
  refine Nat.div_eq_of_eq_mul_right positive (Nat.eq_of_mul_eq_mul_left (by decide : 0 < 2) ?_)
  calc 2 * (k * 125 * n * (n + 1))
    _ = 50 * (k * 5 * (n * (n + 1))) := by ring
    _ = d * (r * k * 5 * (n * (n + 1))) := by rw [updates]; ring
    _ = 2 * (d * _) := by rw [← two_mul_rampSum]; ring

/-! ## The least of several terms, each the largest step that passes its test -/

theorem le_foldl_min_iff (v a : Nat) (terms : List Nat) :
    v ≤ terms.foldl min a ↔ v ≤ a ∧ ∀ x ∈ terms, v ≤ x := by
  induction terms generalizing a with
  | nil => simp
  | cons x terms ih => simp [ih, and_assoc]

/-- A test that a step passes with every higher step that passes it. -/
def Falling (test : Nat → Bool) : Prop := ∀ m n, m ≤ n → test n = true → test m = true

theorem le_largestStep_iff {test : Nat → Bool} (falling : Falling test) {v : Nat} (positive : 0 < v) (n : Nat) :
    v ≤ largestStep test n ↔ v ≤ n ∧ test v = true := by
  induction n with
  | zero => simp [largestStep, positive.ne']
  | succ n ih =>
    unfold largestStep
    split
    · next passes => exact ⟨fun below => ⟨below, falling v _ below passes⟩, And.left⟩
    · next fails =>
      have notTop (passes : test v = true) : v ≠ n + 1 := fun top => fails (top ▸ passes)
      rw [ih]
      exact ⟨fun ⟨below, passes⟩ => ⟨by omega, passes⟩, fun ⟨below, passes⟩ => ⟨by have := notTop passes; omega, passes⟩⟩

/-! ## The terms of R72 -/

section Terms

variable {s : State} {t : TrainId} {v : Nat}

theorem motionPermitted_iff :
    motionPermitted s = true ↔ (s.mode = .run ∨ s.mode = .holding) ∧ s.loop.state = .qualified := by
  simp [motionPermitted, State.qualified]

theorem distanceToHeadEnd_eq (s : State) (t : TrainId) :
    distanceToHeadEnd s t =
      ((s.path t).occupied.head?.elim 0 fun b => (s.blockEntry b).length * 1000) - (s.train t).position := by
  unfold distanceToHeadEnd headLength
  cases (s.path t).occupied <;> rfl

theorem totalLength_cons (s : State) (b : BlockId) (bs : List BlockId) :
    totalLength s (b :: bs) = blockLength s b + totalLength s bs := rfl

theorem brakesWithin_falling (s : State) (t : TrainId) (margin distance : Nat) :
    Falling fun v => trainBraking s t v + margin ≤ distance := by
  intro m n lower stops
  simp only [decide_eq_true_eq] at stops ⊢
  have := trainBraking_monotone s t lower
  omega

/-- Term 4. -/
theorem le_endTerm_iff (positive : 0 < v) :
    v ≤ endTerm s t ↔ v ≤ 126 ∧ trainBraking s t v + (s.trainEntry t).stopMargin * 1000 ≤ remainingAuthority s t := by
  simpa [endTerm, Config.maxStep] using le_largestStep_iff (brakesWithin_falling s t _ _) positive 126

/-- Term 3, for the blocks of a list the first of which starts at a distance from the front. -/
theorem le_approachTerms_iff (positive : 0 < v) (small : v ≤ 126) (distance : Nat) (bs : List BlockId) :
    (∀ x ∈ approachTerms s t distance bs, v ≤ x) ↔
      ∀ i b, bs[i]? = some b →
        trainBraking s t v ≤ trainBraking s t (s.blockEntry b).speedCap + distance + totalLength s (bs.take i) := by
  induction bs generalizing distance with
  | nil => simp [approachTerms]
  | cons c bs ih =>
    have first : v ≤ largestStep (fun v => trainBraking s t v ≤ trainBraking s t (s.blockEntry c).speedCap + distance) 126 ↔
        trainBraking s t v ≤ trainBraking s t (s.blockEntry c).speedCap + distance := by
      simpa [small] using le_largestStep_iff (brakesWithin_falling s t 0 _) positive 126
    rw [approachTerms, List.forall_mem_cons, ih]
    constructor
    · rintro ⟨here, later⟩ (_ | i) b named
      · cases Option.some.inj named
        exact first.mp here
      · have := later i b named
        rw [List.take_succ_cons, totalLength_cons]
        omega
    · intro all
      refine ⟨first.mpr (all 0 c rfl), fun i b named => ?_⟩
      have := all (i + 1) b named
      rw [List.take_succ_cons, totalLength_cons] at this
      omega

/-! ## The greatest safe step -/

/-- A step at which a train keeps the caps of its occupied blocks, can stop its stop margin short of the end of its authority, and can come
down to the cap of each authorised block before that block. -/
def SafeStep (s : State) (t : TrainId) (v : Nat) : Prop :=
  v ≤ 126
    ∧ (∀ b ∈ (s.path t).occupied, v ≤ (s.blockEntry b).speedCap)
    ∧ (∀ i b, (authorisedBlocks s t)[i]? = some b →
        trainBraking s t v ≤ trainBraking s t (s.blockEntry b).speedCap
          + distanceToHeadEnd s t + totalLength s ((authorisedBlocks s t).take i))
    ∧ trainBraking s t v + (s.trainEntry t).stopMargin * 1000 ≤ remainingAuthority s t

theorem permittedStep_of_still (h : motionPermitted s = false ∨ (s.train t).condition.isLocated = false) :
    permittedStep s t = 0 := by
  refine if_neg fun moves => ?_
  rw [Bool.and_eq_true] at moves
  rcases h with still | notLocated
  · simp [still] at moves
  · simp [notLocated] at moves

theorem permittedStep_of_moving (permitted : motionPermitted s = true) (located : (s.train t).condition.isLocated = true) :
    permittedStep s t =
      (((s.path t).occupied.map fun b => (s.blockEntry b).speedCap)
        ++ approachTerms s t (distanceToHeadEnd s t) (authorisedBlocks s t) ++ [endTerm s t]).foldl min 126 :=
  if_pos (by simp [permitted, located])

/-- R72: every safe step is permitted, and every permitted step above 0 is safe. -/
theorem le_permittedStep_iff (permitted : motionPermitted s = true) (located : (s.train t).condition.isLocated = true)
    (positive : 0 < v) : v ≤ permittedStep s t ↔ SafeStep s t v := by
  rw [permittedStep_of_moving permitted located, le_foldl_min_iff, SafeStep]
  refine and_congr_right fun small => ?_
  rw [← le_approachTerms_iff positive small]
  simp [or_imp, forall_and, le_endTerm_iff positive, small]

theorem permittedStep_le_126 (s : State) (t : TrainId) : permittedStep s t ≤ 126 := by
  unfold permittedStep
  split
  · obtain ⟨small, -⟩ := (le_foldl_min_iff _ _ _).mp le_rfl
    exact small
  · exact Nat.zero_le 126

theorem permittedStep_safe (permitted : motionPermitted s = true) (located : (s.train t).condition.isLocated = true)
    (positive : 0 < permittedStep s t) : SafeStep s t (permittedStep s t) :=
  (le_permittedStep_iff permitted located positive).mp le_rfl

/-- R72: what holds a train back from a step above the permitted one. -/
theorem obstacle_of_permittedStep_lt (permitted : motionPermitted s = true) (located : (s.train t).condition.isLocated = true)
    (above : permittedStep s t < v) (small : v ≤ 126) :
    (∃ b ∈ (s.path t).occupied, (s.blockEntry b).speedCap < v)
      ∨ remainingAuthority s t < trainBraking s t v + (s.trainEntry t).stopMargin * 1000
      ∨ ∃ i b, (authorisedBlocks s t)[i]? = some b ∧
          trainBraking s t (s.blockEntry b).speedCap + distanceToHeadEnd s t
            + totalLength s ((authorisedBlocks s t).take i) < trainBraking s t v := by
  by_contra noObstacle
  push Not at noObstacle
  obtain ⟨caps, stops, slows⟩ := noObstacle
  exact above.not_ge ((le_permittedStep_iff permitted located (by omega)).mpr ⟨small, caps, slows, stops⟩)

end Terms

/-- Settles O32: P is the least of terms that are each the largest step of a test, so that the steps up to P are the safe ones; the braking
distance is a Gauss sum over the ramp. -/
theorem permittedStepIsTheGreatestSafeStep : Obligations.PermittedStepIsTheGreatestSafeStep := by
  refine ⟨fun s t => ⟨motionPermitted_iff, distanceToHeadEnd_eq s t, rfl, fun bs => rfl, rfl, fun v => rfl,
    permittedStep_of_still, permittedStep_le_126 s t, fun permitted located => ⟨?caps, ?stops, ?slows, ?greatest⟩⟩, ?braking⟩
  case caps =>
    intro b occupied
    rcases Nat.eq_zero_or_pos (permittedStep s t) with zero | positive
    · simp [zero]
    · obtain ⟨-, caps, -⟩ := permittedStep_safe permitted located positive
      exact caps b occupied
  case stops =>
    intro positive
    obtain ⟨-, -, -, stops⟩ := permittedStep_safe permitted located positive
    exact stops
  case slows =>
    intro i b named positive
    obtain ⟨-, -, slows, -⟩ := permittedStep_safe permitted located positive
    exact slows i b named
  case greatest => exact fun v => obstacle_of_permittedStep_lt permitted located
  case braking =>
    exact fun k d n positive => ⟨brakingDistance_eq_rampSum k n positive, brakingDistance_zero k d,
      fun m rises => brakingDistance_monotone k d rises⟩

end Sys2Proof.Machine
end

section
/-!
PROOFS. SET TRAIN MODE, CLEAR HALT, CALIBRATE and CANCEL CALIBRATION (R81, R86, R91): each changes one train's record or entry and no step, so
that nothing is due when it is answered.
-/

namespace Sys2Proof.Machine

variable {s : State} {t : TrainId}

/-! ## Nothing due after a change that keeps the train's step -/

theorem allStepsZero_updTrain {f : TrainRecord → TrainRecord} (keepsStep : (f (s.train t)).step = (s.train t).step) :
    allStepsZero (s.updTrain t f) = allStepsZero s := by
  have step (x : TrainId) : ((s.updTrain t f).train x).step = (s.train x).step := by
    rw [State.train_updTrain]
    split
    · next same => rw [keepsStep, same]
    · rfl
  simp only [allStepsZero, step]

theorem State.settled.updTrain {f : TrainRecord → TrainRecord} (h : s.settled)
    (keepsStep : (f (s.train t)).step = (s.train t).step) : (s.updTrain t f).settled := by
  obtain ⟨notDue, holding⟩ := h
  exact ⟨notDue, fun mode => (allStepsZero_updTrain keepsStep).trans (holding mode)⟩

theorem State.settled.updTrainEntry {f : TrainEntry → TrainEntry} (h : s.settled) : (s.updTrainEntry t f).settled := h

/-- Table 4-3: a HALTED train stands. -/
theorem State.stillTrainsStand.step_of_halted (h : s.stillTrainsStand) (halted : (s.train t).condition = .halted) :
    (s.train t).step = 0 :=
  h t (by simp [halted]) (by simp [halted])

/-! ## Index arguments -/

theorem eq_byte_of_toNat {b : Byte} {n : Nat} (h : b.toNat = n) : b = byte n := by
  rw [byte, ← h, BitVec.ofNat_toNat, BitVec.setWidth_eq]

/-! ## SET TRAIN MODE (R81) -/

theorem exec_setTrainMode_of_ready (h : s.ready) (tag train mode : Byte) :
    exec (.setTrainMode tag train mode) s = .next (answer tag (runSetTrainMode train mode s.received)) :=
  congrArg Host.Outcome.next (arriveRequest_of_ready h tag (r := .setTrainMode train mode) rfl)

theorem runSetTrainMode_of_train_out {train : Byte} (mode : Byte) (out : 7 < train.toNat) :
    runSetTrainMode train mode s = (.badIndex, s) := onIndex_of_le s out _

theorem runSetTrainMode_of_mode_out {mode : Byte} (out : 1 < mode.toNat) :
    runSetTrainMode (byte t.val) mode s = (.badValue, s) := by
  rw [runSetTrainMode, onIndex_byte s (by decide : 8 ≤ 256)]
  split
  · next auto => omega
  · next guided => omega
  · rfl

theorem runSetTrainMode_of_mode {mode : Byte} {m : TrainMode} (named : mode.toNat = if m = .auto then 0 else 1) :
    runSetTrainMode (byte t.val) mode s = setTrainMode t m s := by
  rw [runSetTrainMode, onIndex_byte s (by decide : 8 ≤ 256)]
  cases m <;> simp_all

/-- R81's change of a train. -/
def changeMode (t : TrainId) (m : TrainMode) (s : State) : State :=
  (s.updTrainEntry t fun e => { e with mode := m }).updTrain t fun r =>
    { r with guided := 0, guideTimer := none, calibration := if m = .guided then none else r.calibration }

theorem changeMode_settled (h : s.settled) (m : TrainMode) : (changeMode t m s).settled :=
  h.updTrainEntry.updTrain rfl

theorem setTrainMode_eq (m : TrainMode) :
    setTrainMode t m s =
      if (s.train t).condition = .absent then (.notAvailable, s)
      else if (s.trainEntry t).mode = m then (.ok, s)
      else (.ok, changeMode t m s) := rfl

theorem answer_setTrainMode (h : s.settled) (tag : Byte) (m : TrainMode) :
    answer tag (setTrainMode t m s) =
      if (s.train t).condition = .absent then reply tag .notAvailable [] s
      else if (s.trainEntry t).mode = m then reply tag .ok [] s
      else reply tag .ok [] (changeMode t m s) := by
  rw [setTrainMode_eq]
  split_ifs
  · exact answer_of_settled tag _ h
  · exact answer_of_settled tag _ h
  · exact answer_of_settled tag _ (changeMode_settled h m)

/-! ## CLEAR HALT (R86) -/

theorem exec_clearHalt_of_ready (h : s.ready) (tag train : Byte) :
    exec (.clearHalt tag train) s = .next (answer tag (onIndex train clearHalt s.received)) :=
  congrArg Host.Outcome.next (arriveRequest_of_ready h tag (r := .clearHalt train) rfl)

theorem releaseHalt_settled (h : s.settled) (still : (s.train t).step = 0) : (releaseHalt t s).settled :=
  h.updTrain still.symm

theorem answer_clearHalt (h : s.settled) (stand : s.stillTrainsStand) (tag : Byte) :
    answer tag (clearHalt t s) =
      if (s.train t).condition = .halted ∧ ∀ b ∈ (s.path t).occupied, (s.block b).detection = .occupied then
        reply tag .ok [] (releaseHalt t s)
      else reply tag .notAvailable [] s := by
  simp only [clearHalt, List.all_eq_true, decide_eq_true_eq]
  split_ifs with cleared
  · obtain ⟨halted, -⟩ := cleared
    exact answer_of_settled tag _ (releaseHalt_settled h (stand.step_of_halted halted))
  · exact answer_of_settled tag _ h

/-! ## CALIBRATE and CANCEL CALIBRATION (R91) -/

theorem exec_calibrate_of_ready (h : s.ready) (tag train block level : Byte) :
    exec (.calibrate tag train block level) s = .next (answer tag (runCalibrate train block level s.received)) :=
  congrArg Host.Outcome.next (arriveRequest_of_ready h tag (r := .calibrate train block level) rfl)

theorem runCalibrate_of_train_out {train : Byte} (block level : Byte) (out : 7 < train.toNat) :
    runCalibrate train block level s = (.badIndex, s) := onIndex_of_le s out _

theorem runCalibrate_of_block_out {block : Byte} (level : Byte) (out : 47 < block.toNat) :
    runCalibrate (byte t.val) block level s = (.badIndex, s) := by
  rw [runCalibrate, onIndex_byte s (by decide : 8 ≤ 256), onIndex_of_le s out]

theorem runCalibrate_of_indexes (b : BlockId) (level : Byte) :
    runCalibrate (byte t.val) (byte b.val) level s = calibrateTrain t b level.toNat s := by
  rw [runCalibrate, onIndex_byte s (by decide : 8 ≤ 256), onIndex_byte s (by decide : 48 ≤ 256)]

theorem answer_calibrateTrain (h : s.settled) (tag : Byte) (b : BlockId) (step : Nat) :
    answer tag (calibrateTrain t b step s) =
      if step = 0 ∨ 126 < step ∨ (s.blockEntry b).enabled = false then reply tag .badValue [] s
      else if (s.trainEntry t).mode = .auto ∧ ((s.train t).condition = .stopped ∨ (s.train t).condition = .running) then
        reply tag .accepted [] (s.updTrain t fun r =>
          { r with calibration := some { block := b, step := step, entryTime := none, updates := 0 } })
      else reply tag .notAvailable [] s := by
  unfold calibrateTrain Config.maxStep
  split_ifs
  · exact answer_of_settled tag _ h
  · exact answer_of_settled tag _ (h.updTrain rfl)
  · exact answer_of_settled tag _ h

theorem exec_cancelCalibration_of_ready (h : s.ready) (tag train : Byte) :
    exec (.cancelCalibration tag train) s = .next (answer tag (onIndex train cancelCalibration s.received)) :=
  congrArg Host.Outcome.next (arriveRequest_of_ready h tag (r := .cancelCalibration train) rfl)

theorem answer_cancelCalibration (h : s.settled) (tag : Byte) :
    answer tag (cancelCalibration t s) =
      if (s.train t).calibration = none then reply tag .notAvailable [] s
      else reply tag .ok [] (s.updTrain t fun r => { r with calibration := none }) := by
  simp only [cancelCalibration, Option.isNone_iff_eq_none]
  split_ifs
  · exact answer_of_settled tag _ h
  · exact answer_of_settled tag _ (h.updTrain rfl)

/-! ## The statement -/

/-- Settles O36: an index out of range never reaches the request's rule; in range, the rule's outcome leaves nothing due and is answered as it
stands. -/
theorem trainRequestsActOnOneTrain : Obligations.TrainRequestsActOnOneTrain := by
  refine ⟨fun tag mode t s ready => ⟨?modeOut, ?setMode⟩, fun tag train s ready => ⟨?haltIndex, ?clearHalt⟩,
    fun tag block level t s ready => ⟨?blockOut, ?calibrate, ?cancel⟩, fun tag train block level s ready out =>
      ⟨?setModeIndex, ?calibrateIndex, ?cancelIndex⟩⟩
  all_goals have settled := ready.received_settled
  case modeOut =>
    intro out
    rw [exec_setTrainMode_of_ready ready, runSetTrainMode_of_mode_out out, answer_of_settled tag _ settled]
  case setMode =>
    intro m named
    rw [exec_setTrainMode_of_ready ready, runSetTrainMode_of_mode named, answer_setTrainMode settled]
    rfl
  case haltIndex =>
    intro out
    rw [exec_clearHalt_of_ready ready, onIndex_of_le _ out, answer_of_settled tag _ settled]
  case clearHalt =>
    intro t named
    have ⟨_, _, _, _, stand⟩ := ready
    rw [eq_byte_of_toNat named, exec_clearHalt_of_ready ready, onIndex_byte _ (by decide : 8 ≤ 256),
      answer_clearHalt settled (s := s.received) stand]
    rfl
  case blockOut =>
    intro out
    rw [exec_calibrate_of_ready ready, runCalibrate_of_block_out level out, answer_of_settled tag _ settled]
  case calibrate =>
    intro b named
    rw [eq_byte_of_toNat named, exec_calibrate_of_ready ready, runCalibrate_of_indexes, answer_calibrateTrain settled]
    rfl
  case cancel =>
    rw [exec_cancelCalibration_of_ready ready, onIndex_byte _ (by decide : 8 ≤ 256), answer_cancelCalibration settled]
    rfl
  case setModeIndex =>
    rw [exec_setTrainMode_of_ready ready, runSetTrainMode_of_train_out level out, answer_of_settled tag _ settled]
  case calibrateIndex =>
    rw [exec_calibrate_of_ready ready, runCalibrate_of_train_out block level out, answer_of_settled tag _ settled]
  case cancelIndex =>
    rw [exec_cancelCalibration_of_ready ready, onIndex_of_le _ out, answer_of_settled tag _ settled]

end Sys2Proof.Machine
end

section
/-!
PROOFS. CLOCK SET and CLOCK RATE (R99, R100, R101): each request is read back from its bytes, reaches its rule, and its rule changes neither a
train nor the part mode, so that nothing is due when it is answered.
-/

namespace Sys2Proof.Machine

variable {s : State}

/-! ## Words read back from their bytes, most significant first (Chapter 11) -/

theorem word16_of_bytes (v : BitVec 16) : v.extractLsb' 8 8 ++ v.extractLsb' 0 8 = v := by
  rw [BitVec.extractLsb'_append_extractLsb'_eq_extractLsb' (by rfl : 8 = 0 + 8)]
  exact BitVec.extractLsb'_eq_self

theorem word24_of_bytes (v : BitVec 24) : v.extractLsb' 16 8 ++ v.extractLsb' 8 8 ++ v.extractLsb' 0 8 = v := by
  rw [BitVec.extractLsb'_append_extractLsb'_eq_extractLsb' (by rfl : 16 = 8 + 8), BitVec.extractLsb'_append_extractLsb'_eq_extractLsb' (by rfl : 8 = 0 + 8)]
  exact BitVec.extractLsb'_eq_self

theorem requestOf_clockSet (second : BitVec 24) (day : BitVec 16) (m : Byte) :
    requestOf 26 (requestArgs (.clockSet second day m)) = some (.clockSet second day m) := by
  conv_rhs => rw [← word24_of_bytes second, ← word16_of_bytes day]
  rfl

theorem requestOf_clockRate (rate : BitVec 16) : requestOf 27 (requestArgs (.clockRate rate)) = some (.clockRate rate) := by
  conv_rhs => rw [← word16_of_bytes rate]
  rfl

/-! ## The requests -/

theorem exec_clockSetJump_of_ready (h : s.ready) (tag : Byte) (second : BitVec 24) (day : BitVec 16) :
    exec (.clockSetJump tag second day) s = .next (answer tag (clockJump second.toNat day.toNat s.received)) :=
  congrArg Host.Outcome.next (arriveRequest_of_ready h tag (requestOf_clockSet second day 0))

theorem exec_clockSetSlew_of_ready (h : s.ready) (tag : Byte) (second : BitVec 24) (day : BitVec 16) :
    exec (.clockSetSlew tag second day) s = .next (answer tag (clockSlew second.toNat s.received)) :=
  congrArg Host.Outcome.next (arriveRequest_of_ready h tag (requestOf_clockSet second day 1))

theorem exec_clockRate_of_ready (h : s.ready) (tag : Byte) (rate : BitVec 16) :
    exec (.clockRate tag rate) s = .next (answer tag (.ok, setClockRate rate.toNat s.received)) :=
  congrArg Host.Outcome.next (arriveRequest_of_ready h tag (requestOf_clockRate rate))

/-! ## Nothing due after a change that keeps the trains, the part mode and the service mark -/

theorem State.settled.of_get {u : State} (h : s.settled)
    (kept : ∀ part ∈ [Part.serviceDue, .mode, .trains], u.get part = s.get part) : u.settled := by
  obtain ⟨notDue, holding⟩ := h
  have sameService : u.interlock.serviceDue = s.interlock.serviceDue := kept .serviceDue (by simp)
  have sameMode : u.mode = s.mode := State.mode_eq_of_get (kept .mode (by simp))
  have sameTrain : ∀ t, u.train t = s.train t := State.train_eq_of_get (kept .trains (by simp))
  have sameSteps : allStepsZero u = allStepsZero s := by simp only [allStepsZero, sameTrain]
  exact ⟨sameService.trans notDue, fun mode => sameSteps.trans (holding (sameMode ▸ mode))⟩

theorem State.settled.clockJump (h : s.settled) (second day : Nat) : (clockJump second day s).2.settled :=
  h.of_get fun part listed => clockJump_get second day (by revert part; decide)

theorem State.settled.updClock (h : s.settled) (f : DayClock → DayClock) : (s.updClock f).settled := h

theorem State.settled.setClockRate (h : s.settled) (q : Nat) : (setClockRate q s).settled := h.updClock _

/-! ## CLOCK SET with JUMP (R99) -/

theorem clockJump_of_past_day {second : Nat} (past : 86399 < second) (day : Nat) : clockJump second day s = (.badValue, s) :=
  if_pos past

/-- S is recomputed at the second that is set, with the new time and day and no slew. -/
theorem recomputeSky_of_jump (second day : Nat) :
    recomputeSky (s.updClock fun c => { c with virtualTime := second * 1000, day := day, slew := none }) =
      s.updClock fun c => { c with
        virtualTime := second * 1000, day := day, slew := none, sky := skyLevel s.tables.sky second } := by
  have wholeSecond : second * 1000 / 1000 = second := Nat.mul_div_cancel second (by decide)
  simp only [recomputeSky, State.updClock, DayClock.second, wholeSecond]

theorem clockJump_of_second {second : Nat} (inDay : ¬ 86399 < second) (day : Nat) :
    clockJump second day s = (.ok, raise .clockJumped noValue s.clock.minute (deliverCue (deviceEvent .clockJumped)
      (s.updClock fun c => { c with
        virtualTime := second * 1000, day := day, slew := none, sky := skyLevel s.tables.sky second }))) := by
  rw [← recomputeSky_of_jump]
  exact if_neg inDay

theorem answer_clockJump (h : s.settled) (tag : Byte) (second day : Nat) :
    answer tag (clockJump second day s) = reply tag (clockJump second day s).1 [] (clockJump second day s).2 :=
  answer_of_settled tag _ (h.clockJump second day)

/-! ## CLOCK SET with SLEW (R100) -/

/-- The difference of R100 is the one number of its range that differs from the distance to the target by whole days. -/
theorem slewDifference_eq {target present : Nat} {d : Int} (low : -43200000 ≤ d) (high : d ≤ 43199999)
    (wholeDays : (86400000 : Int) ∣ target - present - d) : slewDifference target present = d := by
  unfold slewDifference
  omega

theorem clockSlew_of_refused {second : Nat} (refused : 86399 < second ∨ s.clock.rate = 0) :
    clockSlew second s = (.badValue, s) :=
  if_pos refused

theorem clockSlew_of_accepted {second : Nat} (inDay : second ≤ 86399) (runs : s.clock.rate ≠ 0) :
    clockSlew second s = (.ok, s.updClock fun c => { c with
      slew := if slewDifference (second * 1000) s.clock.virtualTime = 0 then none
        else some (slewDifference (second * 1000) s.clock.virtualTime) }) :=
  if_neg (by simp [inDay, runs])

/-! ## The statement -/

/-- Settles O40: none of the four rules leaves anything due, so that each is answered as it stands. -/
theorem clockRequestsSetTheTimeAndTheRate : Obligations.ClockRequestsSetTheTimeAndTheRate := by
  intro tag second day s ready
  have settled := ready.received_settled
  refine ⟨?jump, ?slewRefused, ?slewAccepted, ?rate⟩
  case jump =>
    rw [exec_clockSetJump_of_ready ready, answer_clockJump settled]
    split
    · next past => rw [clockJump_of_past_day past]
    · next inDay =>
      rw [clockJump_of_second inDay]
      rfl
  case slewRefused =>
    intro refused
    rw [exec_clockSetSlew_of_ready ready, clockSlew_of_refused (s := s.received) refused, answer_of_settled tag _ settled]
  case slewAccepted =>
    intro inDay runs d low high wholeDays
    have difference : slewDifference (second.toNat * 1000) s.received.clock.virtualTime = d :=
      slewDifference_eq low high (by exact_mod_cast wholeDays)
    rw [exec_clockSetSlew_of_ready ready, clockSlew_of_accepted (s := s.received) inDay runs, difference,
      answer_of_settled tag _ (settled.updClock _)]
    rfl
  case rate =>
    rw [exec_clockRate_of_ready ready, answer_of_settled tag _ (settled.setClockRate _)]
    rfl

end Sys2Proof.Machine
end

section
/-!
PROOFS. The host LEVEL (R126, R127, Table 6-6): the way of the frame to the Lamp Engine, what becomes of one level, and what becomes of the
levels of a whole frame, whose node channels reach different lamp channels.
-/

namespace Sys2Proof.Machine

variable {s : State} {dest : Byte} {node k : Nat} {l : Byte} {c : ChannelId}

/-! ## The way of the frame (R157, R158, R159) -/

theorem classifySIn_hostLevel (payload : List Byte) (routed : (isFieldAddress dest || dest = 127) = true) (notHere : dest ≠ 0)
    (started : s.mode ≠ .starting) :
    classifySIn (hostFrame dest kindLevel payload) s = settle (hostLevel (hostFrame dest kindLevel payload) s) := by
  have noScreen : screenReason s (hostFrame dest kindLevel payload) = none := if_neg started
  calc classifySIn (hostFrame dest kindLevel payload) s
    _ = passFilter (hostFrame dest kindLevel payload) s :=
      (if_neg (fun foreign => foreign rfl)).trans ((if_neg notHere).trans (if_pos routed))
    _ = settle (hostLevel (hostFrame dest kindLevel payload) s) := by
      rw [passFilter, noScreen]
      rfl

theorem State.settled.hostLevel (h : s.settled) (f : Frame) : (hostLevel f s).settled :=
  h.of_get fun part listed => hostLevel_get f (by revert part; decide)

theorem exec_hostLevel (h : s.settled) (payload : List Byte) (routed : (isFieldAddress dest || dest = 127) = true)
    (notHere : dest ≠ 0) (started : s.mode ≠ .starting) :
    exec (.hostLevel dest payload) s = .next (hostLevel (hostFrame dest kindLevel payload) (s.countSIn PortTotals.addGood)) := by
  have counted : (s.countSIn PortTotals.addGood).settled := h
  calc exec (.hostLevel dest payload) s
    _ = .next (settle (hostLevel (hostFrame dest kindLevel payload) (s.countSIn PortTotals.addGood))) :=
      congrArg Host.Outcome.next (classifySIn_hostLevel payload routed notHere started)
    _ = .next (hostLevel (hostFrame dest kindLevel payload) (s.countSIn PortTotals.addGood)) := by
      rw [settle_of_settled (counted.hostLevel _)]

/-- R126: a frame to one lamp node is handed on as adjusted. -/
theorem exec_hostLevel_of_node (h : s.settled) (payload : List Byte) (low : 1 ≤ dest.toNat) (high : dest.toNat ≤ 96)
    (started : s.mode ≠ .starting) :
    exec (.hostLevel dest payload) s = .next (handOn
      (hostFrame dest kindLevel (adjustPayload dest.toNat payload (s.countSIn PortTotals.addGood)).1)
      (adjustPayload dest.toNat payload (s.countSIn PortTotals.addGood)).2) := by
  have notHere : dest ≠ 0 := by
    rintro rfl
    simp at low
  have notBroadcast : dest ≠ 127 := by
    rintro rfl
    simp at high
  have routed : (isFieldAddress dest || dest = 127) = true := by simp [isFieldAddress, low, high]
  rw [exec_hostLevel h payload routed notHere started]
  exact congrArg Host.Outcome.next (if_neg notBroadcast)

/-- R127: a broadcast is dropped or handed on as it is. -/
theorem exec_hostLevel_of_broadcast (h : s.settled) (payload : List Byte) (started : s.mode ≠ .starting) :
    exec (.hostLevel 127 payload) s = .next (if anyMapped s.tables
      then (s.countSIn PortTotals.addGood).dropSIn .broadcast
      else handOn (hostFrame 127 kindLevel payload) (s.countSIn PortTotals.addGood)) :=
  exec_hostLevel h payload (by decide) (by decide) started

theorem anyMapped_iff : anyMapped s.tables = true ↔ ∃ c, (s.patchEntry c).mapped = true := by
  simp [anyMapped, State.patchEntry]

/-! ## One level (Table 6-6) -/

/-- R126: the lamp channel that a level for a node channel reaches; none lies above node channel 63. -/
def reachedAt (ts : Tables) (node k : Nat) : Option ChannelId := if k ≤ 63 then channelAt ts node k else none

theorem nodeChannel_of_reachedAt (h : reachedAt s.tables node k = some c) : (s.patchEntry c).nodeChannel = k := by
  unfold reachedAt at h
  split at h
  · obtain ⟨-, place⟩ : _ ∧ (s.patchEntry c).nodeChannel = k := by
      simpa [State.patchEntry] using List.find?_some h
    exact place
  · cases h

/-- A channel stands at one node channel. -/
theorem eq_of_reachedAt {k' : Nat} (h : reachedAt s.tables node k = some c) (h' : reachedAt s.tables node k' = some c) : k = k' :=
  (nodeChannel_of_reachedAt h).symm.trans (nodeChannel_of_reachedAt h')

/-- Table 6-6: the level handed on in place of one that reaches a channel. -/
def adjustedLevel (e : PatchEntry) (x : ChannelState) (l : Byte) : Byte :=
  match e.ownership with
  | .show => byte (min l.toNat e.ceiling)
  | .engine => byte x.emitted
  | .merge => byte (min (max x.output l.toNat) e.ceiling)

theorem adjustLevel_of_none (h : reachedAt s.tables node k = none) : adjustLevel node k l s = (l, s) := by
  unfold reachedAt at h
  simp only [adjustLevel, h]

theorem adjustLevel_of_some (h : reachedAt s.tables node k = some c) :
    adjustLevel node k l s = (adjustedLevel (s.patchEntry c) (s.channel c) l,
      if (s.patchEntry c).ownership = .merge then s.updChannel c fun x => { x with showValue := l.toNat } else s) := by
  unfold reachedAt at h
  simp only [adjustLevel, h, adjustedLevel]
  cases (s.patchEntry c).ownership <;> rfl

@[simp] theorem adjustLevel_tables : (adjustLevel node k l s).2.tables = s.tables := by
  cases h : reachedAt s.tables node k with
  | none => rw [adjustLevel_of_none h]
  | some c =>
    rw [adjustLevel_of_some h]
    split <;> rfl

@[simp] theorem adjustLevel_patchEntry : (adjustLevel node k l s).2.patchEntry c = s.patchEntry c := by
  rw [State.patchEntry, adjustLevel_tables, State.patchEntry]

theorem adjustLevel_channel_of_merge (h : reachedAt s.tables node k = some c) (merge : (s.patchEntry c).ownership = .merge) :
    (adjustLevel node k l s).2.channel c = { s.channel c with showValue := l.toNat } := by
  simp [adjustLevel_of_some h, merge]

theorem adjustLevel_channel_of_kept (kept : reachedAt s.tables node k = some c → (s.patchEntry c).ownership ≠ .merge) :
    (adjustLevel node k l s).2.channel c = s.channel c := by
  cases h : reachedAt s.tables node k with
  | none => rw [adjustLevel_of_none h]
  | some d =>
    rw [adjustLevel_of_some h]
    split
    · next merge =>
      have other : d ≠ c := by
        rintro rfl
        exact kept h merge
      simp [other]
    · rfl

/-- A level changes at most a show value, so that what Table 6-6 reads of a channel is what it was before the frame. -/
@[simp] theorem adjustedLevel_adjustLevel (e : PatchEntry) (m : Byte) :
    adjustedLevel e ((adjustLevel node k l s).2.channel c) m = adjustedLevel e (s.channel c) m := by
  by_cases stored : reachedAt s.tables node k = some c ∧ (s.patchEntry c).ownership = .merge
  · obtain ⟨reached, merge⟩ := stored
    rw [adjustLevel_channel_of_merge reached merge]
    rfl
  · rw [adjustLevel_channel_of_kept fun reached merge => stored ⟨reached, merge⟩]

/-! ## The levels of a frame (R126) -/

theorem adjustLevels_cons (ls : List Byte) :
    adjustLevels node k (l :: ls) s = ((adjustLevel node k l s).1 :: (adjustLevels node (k + 1) ls (adjustLevel node k l s).2).1,
      (adjustLevels node (k + 1) ls (adjustLevel node k l s).2).2) := rfl

theorem adjustLevels_length (ls : List Byte) : (adjustLevels node k ls s).1.length = ls.length := by
  induction ls generalizing k s with
  | nil => rfl
  | cons l ls ih => simp [adjustLevels_cons, ih]

theorem adjustLevels_level_of_none {ls : List Byte} {i : Nat} (at_i : ls[i]? = some l)
    (h : reachedAt s.tables node (k + i) = none) : (adjustLevels node k ls s).1[i]? = some l := by
  induction ls generalizing k i s with
  | nil => simp at at_i
  | cons m ls ih =>
    cases i with
    | zero =>
      obtain rfl : m = l := by simpa using at_i
      simp [adjustLevels_cons, adjustLevel_of_none (k := k) h]
    | succ i =>
      rw [adjustLevels_cons, List.getElem?_cons_succ]
      exact ih at_i (by rwa [adjustLevel_tables, Nat.add_right_comm])

theorem adjustLevels_level_of_some {ls : List Byte} {i : Nat} (at_i : ls[i]? = some l)
    (h : reachedAt s.tables node (k + i) = some c) :
    (adjustLevels node k ls s).1[i]? = some (adjustedLevel (s.patchEntry c) (s.channel c) l) := by
  induction ls generalizing k i s with
  | nil => simp at at_i
  | cons m ls ih =>
    cases i with
    | zero =>
      obtain rfl : m = l := by simpa using at_i
      simp [adjustLevels_cons, adjustLevel_of_some (k := k) h]
    | succ i =>
      have later := ih (k := k + 1) (s := (adjustLevel node k m s).2) at_i (by rwa [adjustLevel_tables, Nat.add_right_comm])
      simpa [adjustLevels_cons] using later

theorem adjustLevels_channel_of_kept {ls : List Byte}
    (kept : ∀ i, i < ls.length → reachedAt s.tables node (k + i) = some c → (s.patchEntry c).ownership ≠ .merge) :
    (adjustLevels node k ls s).2.channel c = s.channel c := by
  induction ls generalizing k s with
  | nil => rfl
  | cons m ls ih =>
    have first := adjustLevel_channel_of_kept (k := k) (l := m) (kept 0 (by simp))
    rw [adjustLevels_cons, ih, first]
    intro i inRange reached
    rw [adjustLevel_tables, Nat.add_right_comm] at reached
    rw [adjustLevel_patchEntry]
    exact kept (i + 1) (by simpa using inRange) reached

/-- No other level of the frame reaches the channel, so that the show value stored is that of its own level. -/
theorem adjustLevels_channel_of_merge {ls : List Byte} {i : Nat} (at_i : ls[i]? = some l)
    (h : reachedAt s.tables node (k + i) = some c) (merge : (s.patchEntry c).ownership = .merge) :
    (adjustLevels node k ls s).2.channel c = { s.channel c with showValue := l.toNat } := by
  induction ls generalizing k i s with
  | nil => simp at at_i
  | cons m ls ih =>
    rw [adjustLevels_cons]
    cases i with
    | zero =>
      obtain rfl : m = l := by simpa using at_i
      rw [adjustLevels_channel_of_kept, adjustLevel_channel_of_merge (k := k) h merge]
      intro j _ again
      rw [adjustLevel_tables] at again
      have samePlace := eq_of_reachedAt h again
      omega
    | succ i =>
      have notFirst : reachedAt s.tables node k = some c → (s.patchEntry c).ownership ≠ .merge := fun first => by
        have samePlace := eq_of_reachedAt h first
        omega
      rw [← adjustLevel_channel_of_kept (l := m) notFirst]
      exact ih at_i (by rwa [adjustLevel_tables, Nat.add_right_comm]) (by rwa [adjustLevel_patchEntry])

/-! ## The payload (R126) -/

theorem adjustPayload_of_node_channel {first : Byte} (low : first.toNat ≤ 63) (levels : List Byte) :
    adjustPayload node (first :: levels) s =
      (first :: (adjustLevels node first.toNat levels s).1, (adjustLevels node first.toNat levels s).2) :=
  if_neg (by omega)

theorem adjustPayload_of_nothing_to_adjust {payload : List Byte} (h : payload.length ≤ 1 ∨ 63 < n1 payload 0) :
    adjustPayload node payload s = (payload, s) := by
  cases payload with
  | nil => rfl
  | cons first levels =>
    by_cases high : 63 < first.toNat
    · exact if_pos high
    · have noLevels : levels = [] := by simpa [n1, at0, high] using h
      rw [adjustPayload_of_node_channel (by omega), noLevels]
      rfl

/-! ## The statement -/

/-- Settles O44: a frame to one node is adjusted level by level and handed on, which leaves nothing due; a broadcast depends on
`anyMapped`. -/
theorem hostLevelIsAdjustedAndHandedOn : Obligations.HostLevelIsAdjustedAndHandedOn := by
  intro dest s started settled
  refine ⟨?adjusted, ?unadjusted, ?broadcast⟩
  case adjusted =>
    intro low high first levels firstLow
    refine ⟨(adjustLevels dest.toNat first.toNat levels (s.countSIn PortTotals.addGood)).1,
      (adjustLevels dest.toNat first.toNat levels (s.countSIn PortTotals.addGood)).2, ?_, adjustLevels_length levels,
      fun i l at_i => ⟨fun unreached => ?unreached, fun c reached => ?level⟩,
      fun i l c at_i reached merge => ?stored, fun c kept => ?kept, ?counted, ?frame⟩
    · rw [exec_hostLevel_of_node settled _ low high started, adjustPayload_of_node_channel firstLow]
      rfl
    case unreached => exact adjustLevels_level_of_none (s := s.countSIn PortTotals.addGood) at_i unreached
    case level => exact adjustLevels_level_of_some (s := s.countSIn PortTotals.addGood) at_i reached
    case stored => exact adjustLevels_channel_of_merge (s := s.countSIn PortTotals.addGood) at_i reached merge
    case kept => exact adjustLevels_channel_of_kept (s := s.countSIn PortTotals.addGood) kept
    case counted => exact adjustLevels_get (part := .sIn) _ _ _ (by simp)
    case frame =>
      intro part outside
      simp only [List.mem_cons, List.not_mem_nil, or_false, not_or] at outside
      rw [adjustLevels_get _ _ _ (by simp [outside]), countSIn_get _ (by simp [outside])]
  case unadjusted =>
    intro low high payload nothing
    rw [exec_hostLevel_of_node settled _ low high started, adjustPayload_of_nothing_to_adjust nothing]
    rfl
  case broadcast =>
    rintro rfl payload
    rw [exec_hostLevel_of_broadcast settled payload started]
    refine ⟨fun mapped => ?_, fun unmapped => ?_⟩
    · rw [if_pos (anyMapped_iff.mpr mapped)]
    · have noneMapped : ¬ anyMapped s.tables = true := by simp [anyMapped_iff, unmapped]
      rw [if_neg noneMapped]
      rfl

end Sys2Proof.Machine
end

section
/-!
PROOFS. The Rotor Unit's shared rules (R132 to R135, R137): what an update of one rotor's record and a ROTOR frame's offer make of the state,
and what START, STOP and a halt make of a rotor.
-/

namespace Sys2Proof.Machine

variable {s : State} {r : RotorId}

/-! ## One rotor's record -/

theorem State.rotor_eq_of_get {u : State} (h : u.get .rotors = s.get .rotors) (r : RotorId) : u.rotor r = s.rotor r :=
  congrArg (fun v : Vector RotorRecord 4 => v[r]) h

theorem State.rotorEntry_eq_of_get {u : State} (h : u.get .otherTables = s.get .otherTables) (r : RotorId) :
    u.rotorEntry r = s.rotorEntry r := by
  have rotors := congrArg Tables.rotors h
  exact congrArg (fun v : Vector RotorEntry 4 => v[r]) rotors

/-- An update is decided by what it makes of the record that stands there. -/
theorem State.updRotor_congr {f g : RotorRecord → RotorRecord} (h : f (s.rotor r) = g (s.rotor r)) : s.updRotor r f = s.updRotor r g := by
  have same : f s.rotors.rotors[r] = g s.rotors.rotors[r] := h
  simp only [State.updRotor, modifyAt, same]

theorem State.updRotor_updRotor (f g : RotorRecord → RotorRecord) : (s.updRotor r f).updRotor r g = s.updRotor r (g ∘ f) := by
  simp [State.updRotor, modifyAt]

/-- A change of a rotor leaves nothing due. -/
theorem State.settled.updRotor (h : s.settled) (f : RotorRecord → RotorRecord) : (s.updRotor r f).settled := h

/-! ## The ROTOR frame (R137, Table 7-1) -/

theorem rotorFrame_eq (e : RotorEntry) (step : Nat) : rotorFrame e step =
    { dest := byte e.node, src := 0, kind := 0x40
      payload := [byte e.channel, if e.direction = Direction.reverse then 1 else 0, byte step] } := by
  cases h : e.direction <;> simp [rotorFrame, h] <;> rfl

theorem offerEngine_updRotor (k : EngineKey) (f : Frame) (g : RotorRecord → RotorRecord) :
    offerEngine k f (s.updRotor r g) = (offerEngine k f s).updRotor r g := rfl

/-! ## Halts (R134) -/

/-- A rotor's record after a halt, its refresh timer restarted by the ROTOR of step 0. -/
def RotorRecord.haltedBy (c : RotorCause) (x : RotorRecord) : RotorRecord :=
  { x with
    condition := .halted, cause := some c, step := 0, target := 0, accumulator := 0, ramp := .none, pendingTarget := none
    refreshTimer := some 1000 }

theorem RotorCondition.still_iff (x : RotorCondition) : (x.isTurning || x = .stopped) = false ↔ x = .unhomed ∨ x = .halted := by
  cases x <;> decide

theorem haltRotor_of_still (c : RotorCause) (h : (s.rotor r).condition = .unhomed ∨ (s.rotor r).condition = .halted) :
    haltRotor r c s = s := by
  rw [← RotorCondition.still_iff] at h
  exact if_neg (by simp [h])

theorem haltRotor_of_not_still (c : RotorCause) (h : ¬ ((s.rotor r).condition = .unhomed ∨ (s.rotor r).condition = .halted)) :
    haltRotor r c s = raise .rotorHalted r.val c.code
      ((offerEngine (.rotor r) (rotorFrame (s.rotorEntry r) 0) s).updRotor r (RotorRecord.haltedBy c)) := by
  rw [← RotorCondition.still_iff, Bool.not_eq_false] at h
  rw [haltRotor, if_pos h]
  simp only [offerRotor, State.rotor_updRotor, if_true, offerEngine_updRotor, State.updRotor_updRotor]
  rfl

/-! ## START and STOP (R132, R133) -/

/-- A rotor that is not HALTED after a START with a clamped step. -/
def RotorRecord.started (q : Nat) (x : RotorRecord) : RotorRecord :=
  match x.condition with
  | .unhomed => { x with condition := .homing, pendingTarget := some q, runTime := 0, ramp := .none }
  | .homing => { x with pendingTarget := some q }
  | _ => { x with condition := .running, target := q }

theorem startRotor_eq (step : Nat) :
    startRotor r step s =
      if (s.rotorEntry r).enabled = false then (.notAvailable, s)
      else if s.mode ≠ .run ∨ s.qualified = false then (.wrongMode, s)
      else if (s.rotor r).condition = .halted then (.notAvailable, s)
      else (.ok, s.updRotor r (RotorRecord.started (max 1 (min step (s.rotorEntry r).maxStep)))) := by
  simp only [startRotor, Bool.not_eq_true']
  split_ifs with disabled away halted
  · rfl
  · rfl
  · rfl
  · refine congrArg (Prod.mk Status.ok) (State.updRotor_congr ?_)
    cases condition : (s.rotor r).condition with
    | halted => exact absurd condition halted
    | unhomed | homing | stopped | running | stopping => simp only [RotorRecord.started, requestedStep, condition]

theorem stopRotor_eq :
    stopRotor r s =
      if (s.rotorEntry r).enabled = false then (.notAvailable, s) else (.ok, s.updRotor r RotorRecord.toStopping) := by
  simp only [stopRotor, Bool.not_eq_true']

end Sys2Proof.Machine
end

section
/-!
PROOFS. ROTOR START, ROTOR STOP, ROTOR HALT and CLEAR ROTOR (R132, R133, R135) and the host ROTOR (R140): how each reaches its rule, and what
the rule answers or does with the frame. None of them leaves anything due.
-/

namespace Sys2Proof.Machine

variable {s : State} {r : RotorId}

/-! ## The requests -/

theorem exec_rotorStart_of_ready (h : s.ready) (tag rotor step : Byte) :
    exec (.rotorStart tag rotor step) s = .next (answer tag (onIndex rotor (fun r => startRotor r step.toNat) s.received)) :=
  congrArg Host.Outcome.next (arriveRequest_of_ready h tag (r := .rotorStart rotor step) rfl)

theorem exec_rotorStop_of_ready (h : s.ready) (tag rotor : Byte) :
    exec (.rotorStop tag rotor) s = .next (answer tag (onIndex rotor stopRotor s.received)) :=
  congrArg Host.Outcome.next (arriveRequest_of_ready h tag (r := .rotorStop rotor) rfl)

theorem exec_rotorHalt_of_ready (h : s.ready) (tag rotor : Byte) :
    exec (.rotorHalt tag rotor) s = .next (answer tag (onIndex rotor requestRotorHalt s.received)) :=
  congrArg Host.Outcome.next (arriveRequest_of_ready h tag (r := .rotorHalt rotor) rfl)

theorem exec_clearRotor_of_ready (h : s.ready) (tag rotor : Byte) :
    exec (.clearRotor tag rotor) s = .next (answer tag (onIndex rotor clearRotorRecord s.received)) :=
  congrArg Host.Outcome.next (arriveRequest_of_ready h tag (r := .clearRotor rotor) rfl)

theorem answer_startRotor (h : s.settled) (tag : Byte) (step : Nat) :
    answer tag (startRotor r step s) =
      if (s.rotorEntry r).enabled = false then reply tag .notAvailable [] s
      else if s.mode ≠ .run ∨ s.qualified = false then reply tag .wrongMode [] s
      else if (s.rotor r).condition = .halted then reply tag .notAvailable [] s
      else reply tag .ok [] (s.updRotor r (RotorRecord.started (max 1 (min step (s.rotorEntry r).maxStep)))) := by
  rw [startRotor_eq]
  split_ifs
  · exact answer_of_settled tag _ h
  · exact answer_of_settled tag _ h
  · exact answer_of_settled tag _ h
  · exact answer_of_settled tag _ (h.updRotor _)

theorem answer_stopRotor (h : s.settled) (tag : Byte) :
    answer tag (stopRotor r s) =
      if (s.rotorEntry r).enabled = false then reply tag .notAvailable [] s
      else reply tag .ok [] (s.updRotor r RotorRecord.toStopping) := by
  rw [stopRotor_eq]
  split_ifs
  · exact answer_of_settled tag _ h
  · exact answer_of_settled tag _ (h.updRotor _)

theorem State.settled.haltRotor (h : s.settled) (c : RotorCause) : (haltRotor r c s).settled :=
  h.of_get fun part listed => haltRotor_get r c (by revert part; decide)

theorem answer_requestRotorHalt (h : s.settled) (tag : Byte) :
    answer tag (requestRotorHalt r s) =
      if (s.rotorEntry r).enabled = false then reply tag .notAvailable [] s
      else if (s.rotor r).condition = .unhomed ∨ (s.rotor r).condition = .halted then reply tag .ok [] s
      else reply tag .ok [] (raise .rotorHalted r.val 4
        ((offerEngine (.rotor r) (rotorFrame (s.rotorEntry r) 0) s).updRotor r (RotorRecord.haltedBy .requested))) := by
  simp only [requestRotorHalt, Bool.not_eq_true']
  split_ifs with disabled still
  · exact answer_of_settled tag _ h
  · rw [haltRotor_of_still _ still]
    exact answer_of_settled tag _ h
  · rw [answer_of_settled tag _ (h.haltRotor _), haltRotor_of_not_still _ still]
    rfl

theorem answer_clearRotorRecord (h : s.settled) (tag : Byte) :
    answer tag (clearRotorRecord r s) =
      if (s.rotor r).condition = .halted then reply tag .ok [] (s.updRotor r RotorRecord.cleared)
      else reply tag .notAvailable [] s := by
  rw [clearRotorRecord]
  split_ifs
  · exact answer_of_settled tag _ (h.updRotor _)
  · exact answer_of_settled tag _ h

/-! ## The host ROTOR (R140) -/

theorem enabled_of_rotorAt {node channel : Nat} (h : rotorAt s.tables node channel = some r) : (s.rotorEntry r).enabled = true := by
  obtain ⟨⟨enabled, -⟩, -⟩ : (_ ∧ _) ∧ _ := by simpa using List.find?_some h
  exact enabled

theorem State.settled.hostRotor (h : s.settled) (f : Frame) : (hostRotor f s).settled :=
  h.of_get fun part listed => hostRotor_get f (by revert part; decide)

section
variable {dest channel flags level : Byte}

/-- R158, R159: a ROTOR of three bytes for one node passes the screens of a part that has started, on a QUALIFIED ring. -/
theorem classifySIn_hostRotor (low : 1 ≤ dest.toNat) (high : dest.toNat ≤ 96) (started : s.mode ≠ .starting) (qualified : s.qualified = true) :
    classifySIn (hostFrame dest kindRotor [channel, flags, level]) s =
      settle (hostRotor (hostFrame dest kindRotor [channel, flags, level]) s) := by
  have notHere : dest ≠ 0 := by
    rintro rfl
    simp at low
  have notBroadcast : dest ≠ 127 := by
    rintro rfl
    simp at high
  have routed : (isFieldAddress dest || dest = 127) = true := by simp [isFieldAddress, low, high]
  have noScreen : screenReason s (hostFrame dest kindRotor [channel, flags, level]) = none :=
    (if_neg started).trans ((if_neg notBroadcast).trans (if_pos qualified))
  calc classifySIn (hostFrame dest kindRotor [channel, flags, level]) s
    _ = passFilter (hostFrame dest kindRotor [channel, flags, level]) s :=
      (if_neg (fun foreign => foreign rfl)).trans ((if_neg notHere).trans (if_pos routed))
    _ = settle (hostRotor (hostFrame dest kindRotor [channel, flags, level]) s) := by
      rw [passFilter, noScreen]
      rfl

theorem exec_hostRotor (h : s.settled) (low : 1 ≤ dest.toNat) (high : dest.toNat ≤ 96) (started : s.mode ≠ .starting)
    (qualified : s.qualified = true) :
    exec (.hostRotor dest [channel, flags, level]) s =
      .next (hostRotor (hostFrame dest kindRotor [channel, flags, level]) (s.countSIn PortTotals.addGood)) := by
  have counted : (s.countSIn PortTotals.addGood).settled := h
  calc exec (.hostRotor dest [channel, flags, level]) s
    _ = .next (settle (hostRotor (hostFrame dest kindRotor [channel, flags, level]) (s.countSIn PortTotals.addGood))) :=
      congrArg Host.Outcome.next (classifySIn_hostRotor low high started qualified)
    _ = .next (hostRotor (hostFrame dest kindRotor [channel, flags, level]) (s.countSIn PortTotals.addGood)) := by
      rw [settle_of_settled (counted.hostRotor _)]

theorem hostRotor_of_unmatched (h : rotorAt s.tables dest.toNat channel.toNat = none) :
    hostRotor (hostFrame dest kindRotor [channel, flags, level]) s = handOn (hostFrame dest kindRotor [channel, flags, level]) s := by
  have unmatched : rotorAt s.tables (hostFrame dest kindRotor [channel, flags, level]).dest.toNat
      (n1 (hostFrame dest kindRotor [channel, flags, level]).payload 0) = none := h
  simp only [hostRotor, unmatched]

theorem hostRotor_of_matched (h : rotorAt s.tables dest.toNat channel.toNat = some r) :
    hostRotor (hostFrame dest kindRotor [channel, flags, level]) s =
      if level.toNat = 0 then consumeFrame (stopRotor r s).2
      else if (startRotor r level.toNat s).1.isSuccess then consumeFrame (startRotor r level.toNat s).2
      else s.dropSIn .rotorRefused := by
  have matched : rotorAt s.tables (hostFrame dest kindRotor [channel, flags, level]).dest.toNat
      (n1 (hostFrame dest kindRotor [channel, flags, level]).payload 0) = some r := h
  simp only [hostRotor, matched]
  rfl

theorem hostRotor_of_zero (h : rotorAt s.tables dest.toNat channel.toNat = some r) :
    hostRotor (hostFrame dest kindRotor [channel, flags, 0]) s = consumeFrame (s.updRotor r RotorRecord.toStopping) := by
  rw [hostRotor_of_matched h, stopRotor_eq, enabled_of_rotorAt h]
  rfl

theorem hostRotor_of_refused (h : rotorAt s.tables dest.toNat channel.toNat = some r) (asks : level ≠ 0)
    (refused : s.mode ≠ .run ∨ (s.rotor r).condition = .halted) :
    hostRotor (hostFrame dest kindRotor [channel, flags, level]) s = s.dropSIn .rotorRefused := by
  have unsuccessful : (startRotor r level.toNat s).1.isSuccess = false := by
    rw [startRotor_eq]
    split_ifs with disabled away halted
    · rfl
    · rfl
    · rfl
    · obtain mode | condition := refused
      · exact absurd (Or.inl mode) away
      · exact absurd condition halted
  rw [hostRotor_of_matched h, if_neg (by simpa [BitVec.toNat_eq] using asks), if_neg (by simp [unsuccessful])]

theorem hostRotor_of_accepted (h : rotorAt s.tables dest.toNat channel.toNat = some r) (asks : level ≠ 0) (mode : s.mode = .run)
    (qualified : s.qualified = true) (able : (s.rotor r).condition ≠ .halted) :
    hostRotor (hostFrame dest kindRotor [channel, flags, level]) s =
      consumeFrame (s.updRotor r (RotorRecord.started (max 1 (min level.toNat (s.rotorEntry r).maxStep)))) := by
  have accepted : startRotor r level.toNat s =
      (.ok, s.updRotor r (RotorRecord.started (max 1 (min level.toNat (s.rotorEntry r).maxStep)))) := by
    rw [startRotor_eq, if_neg (by simp [enabled_of_rotorAt h]), if_neg (by simp [mode, qualified]), if_neg able]
  rw [hostRotor_of_matched h, if_neg (by simpa [BitVec.toNat_eq] using asks), accepted]
  rfl

end

/-! ## The statement -/

/-- Settles O45: each request in a ready state is its rule, answered with nothing due; a host ROTOR on a QUALIFIED ring reaches the same rules
at the rotor of its node and channel. -/
theorem rotorsStartAndStopByRequestAndByHost : Obligations.RotorsStartAndStopByRequestAndByHost := by
  refine ⟨fun tag rotor step s ready => ⟨fun out => ⟨?startIndex, ?stopIndex, ?haltIndex, ?clearIndex⟩,
    fun r named => ⟨?start, ?stop, ?halt, ?clear⟩⟩,
    fun dest channel flags level s low high started qualified settled => ⟨fun unmatched => ?handedOn,
      fun r matched => ⟨?hostStop, fun asks refused => ?hostRefused, fun asks mode able => ?hostStart⟩⟩⟩
  case startIndex => rw [exec_rotorStart_of_ready ready, onIndex_of_le _ out, answer_of_settled tag _ ready.received_settled]
  case stopIndex => rw [exec_rotorStop_of_ready ready, onIndex_of_le _ out, answer_of_settled tag _ ready.received_settled]
  case haltIndex => rw [exec_rotorHalt_of_ready ready, onIndex_of_le _ out, answer_of_settled tag _ ready.received_settled]
  case clearIndex => rw [exec_clearRotor_of_ready ready, onIndex_of_le _ out, answer_of_settled tag _ ready.received_settled]
  case start =>
    rw [eq_byte_of_toNat named, exec_rotorStart_of_ready ready, onIndex_byte _ (by decide : 4 ≤ 256),
      answer_startRotor ready.received_settled]
    rfl
  case stop =>
    rw [eq_byte_of_toNat named, exec_rotorStop_of_ready ready, onIndex_byte _ (by decide : 4 ≤ 256),
      answer_stopRotor ready.received_settled]
    rfl
  case halt =>
    rw [eq_byte_of_toNat named, exec_rotorHalt_of_ready ready, onIndex_byte _ (by decide : 4 ≤ 256),
      answer_requestRotorHalt ready.received_settled, rotorFrame_eq]
    rfl
  case clear =>
    rw [eq_byte_of_toNat named, exec_clearRotor_of_ready ready, onIndex_byte _ (by decide : 4 ≤ 256),
      answer_clearRotorRecord ready.received_settled]
    rfl
  case handedOn =>
    rw [exec_hostRotor settled low high started qualified, hostRotor_of_unmatched (s := s.countSIn PortTotals.addGood) unmatched]
    rfl
  case hostStop =>
    rintro rfl
    rw [exec_hostRotor settled low high started qualified, hostRotor_of_zero (s := s.countSIn PortTotals.addGood) matched]
    rfl
  case hostRefused =>
    rw [exec_hostRotor settled low high started qualified,
      hostRotor_of_refused (s := s.countSIn PortTotals.addGood) matched asks refused]
  case hostStart =>
    rw [exec_hostRotor settled low high started qualified,
      hostRotor_of_accepted (s := s.countSIn PortTotals.addGood) matched asks mode qualified able]
    rfl

end Sys2Proof.Machine
end

section
/-!
PROOFS. The rotor update (R136, R137). The update of one rotor is first said in closed form, on its record and on the frame it offers; the
update of another rotor keeps that record, that frame and the ROTOR_HALTED flag, so that what one update did stands at the end of all four.
-/

namespace Sys2Proof.Machine

variable {s u v : State} {i r : RotorId} {e : RotorEntry} {x : RotorRecord} {f : Frame}

/-! ## The ramp of one record (R137) -/

theorem RotorRecord.rampStage_of_below (below : x.step < x.effectiveTarget e) :
    let up := (if x.ramp = .down then 0 else x.accumulator) + e.acceleration
    let rise := min (up / 50) (x.effectiveTarget e - x.step)
    x.rampStage e = { x with
      step := x.step + rise, ramp := .up
      accumulator := if x.step + rise = x.effectiveTarget e then 0 else up - 50 * rise } := by
  simp only [RotorRecord.rampStage, if_pos below, Ramp.rise, Ramp.settle]
  split_ifs <;> rfl

theorem RotorRecord.rampStage_of_above (above : x.effectiveTarget e < x.step) :
    let down := (if x.ramp = .up then 0 else x.accumulator) + e.acceleration
    let fall := min (down / 50) (x.step - x.effectiveTarget e)
    x.rampStage e = { x with
      step := x.step - fall, ramp := .down
      accumulator := if x.step - fall = x.effectiveTarget e then 0 else down - 50 * fall } := by
  have notBelow : ¬ x.step < x.effectiveTarget e := by omega
  simp only [RotorRecord.rampStage, if_neg notBelow, if_pos above, Ramp.fall, Ramp.settle]
  split_ifs <;> rfl

theorem RotorRecord.rampStage_of_reached (reached : x.step = x.effectiveTarget e) :
    x.rampStage e = { x with accumulator := 0 } := by
  simp [RotorRecord.rampStage, reached, Ramp.settle]

/-! ## The update of one record (R136) -/

/-- The run time past the stall limit of a rotor that is powered. -/
abbrev RotorRecord.Stalls (e : RotorEntry) (x : RotorRecord) : Prop := 0 < x.step ∧ e.stallLimit < x.advance.runTime

/-- A record after an update without a stall; a changed step restarts the refresh timer. -/
def RotorRecord.moved (e : RotorEntry) (x : RotorRecord) : RotorRecord :=
  { x.advance.rampStage e with
    refreshTimer := if (x.advance.rampStage e).step = x.step then x.refreshTimer else some 1000 }

theorem RotorRecord.moved_of_same_step (h : (x.moved e).step = x.step) : x.moved e = x.advance.rampStage e :=
  congrArg (fun timer => { x.advance.rampStage e with refreshTimer := timer }) (if_pos h)

theorem RotorRecord.moved_of_new_step (h : (x.moved e).step ≠ x.step) :
    x.moved e = { x.advance.rampStage e with refreshTimer := some 1000 } :=
  congrArg (fun timer => { x.advance.rampStage e with refreshTimer := timer }) (if_neg h)

theorem RotorRecord.moved_of_below (below : x.step < x.effectiveTarget e) :
    let up := (if x.ramp = .down then 0 else x.accumulator) + e.acceleration
    let rise := min (up / 50) (x.effectiveTarget e - x.step)
    x.moved e = { x.advance with
      step := x.step + rise, ramp := .up
      accumulator := if x.step + rise = x.effectiveTarget e then 0 else up - 50 * rise
      refreshTimer := if rise = 0 then x.refreshTimer else some 1000 } := by
  intro up rise
  have timer : (if x.step + rise = x.step then x.refreshTimer else some 1000) = if rise = 0 then x.refreshTimer else some 1000 :=
    if_congr (by omega) rfl rfl
  rw [RotorRecord.moved, RotorRecord.rampStage_of_below (x := x.advance) below, ← timer]
  rfl

theorem RotorRecord.moved_of_above (above : x.effectiveTarget e < x.step) :
    let down := (if x.ramp = .up then 0 else x.accumulator) + e.acceleration
    let fall := min (down / 50) (x.step - x.effectiveTarget e)
    x.moved e = { x.advance with
      step := x.step - fall, ramp := .down
      accumulator := if x.step - fall = x.effectiveTarget e then 0 else down - 50 * fall
      refreshTimer := if fall = 0 then x.refreshTimer else some 1000 } := by
  intro down fall
  have timer : (if x.step - fall = x.step then x.refreshTimer else some 1000) = if fall = 0 then x.refreshTimer else some 1000 :=
    if_congr (by omega) rfl rfl
  rw [RotorRecord.moved, RotorRecord.rampStage_of_above (x := x.advance) above, ← timer]
  rfl

theorem RotorRecord.moved_of_reached (reached : x.step = x.effectiveTarget e) : x.moved e = { x.advance with accumulator := 0 } := by
  rw [RotorRecord.moved, RotorRecord.rampStage_of_reached (x := x.advance) reached]
  exact congrArg (fun timer => { x.advance with accumulator := 0, refreshTimer := timer }) (if_pos rfl)

theorem RotorRecord.moved_eq :
    let goal := x.effectiveTarget e
    let up := (if x.ramp = .down then 0 else x.accumulator) + e.acceleration
    let down := (if x.ramp = .up then 0 else x.accumulator) + e.acceleration
    let rise := min (up / 50) (goal - x.step)
    let fall := min (down / 50) (x.step - goal)
    x.moved e =
      if x.step < goal then
        { x.advance with
          step := x.step + rise, ramp := .up
          accumulator := if x.step + rise = goal then 0 else up - 50 * rise
          refreshTimer := if rise = 0 then x.refreshTimer else some 1000 }
      else if goal < x.step then
        { x.advance with
          step := x.step - fall, ramp := .down
          accumulator := if x.step - fall = goal then 0 else down - 50 * fall
          refreshTimer := if fall = 0 then x.refreshTimer else some 1000 }
      else { x.advance with accumulator := 0 } := by
  intro goal up down rise fall
  obtain below | reached | above := lt_trichotomy x.step goal
  · rw [if_pos below]
    exact RotorRecord.moved_of_below below
  · rw [if_neg (by omega), if_neg (by omega)]
    exact RotorRecord.moved_of_reached reached
  · rw [if_neg (by omega), if_pos above]
    exact RotorRecord.moved_of_above above

/-- The effective target of a rotor that turns (R137). -/
def RotorRecord.goal (e : RotorEntry) (x : RotorRecord) : Nat :=
  match x.condition with
  | .homing => e.creepStep
  | .running => x.target
  | _ => if e.creepStep < x.step then e.creepStep else x.step

theorem RotorRecord.effectiveTarget_of_turning (h : x.condition.isTurning = true) : x.effectiveTarget e = x.goal e := by
  cases condition : x.condition with
  | homing | running | stopping => simp only [RotorRecord.effectiveTarget, RotorRecord.goal, condition]
  | unhomed | stopped | halted => simp [condition, RotorCondition.isTurning] at h

/-! ## A ROTOR frame that waits or is under way (R9, R14) -/

/-- The frame waits under its rotor's key, or F-out transmits it for the Engine Queue. -/
def State.Carries (s : State) (r : RotorId) (f : Frame) : Prop :=
  (EngineKey.rotor r, f) ∈ s.field.engine ∨ s.field.transmitting = some (.engine, f)

theorem keyedOffer_mem {q : List (EngineKey × Frame)} (k : EngineKey) (f : Frame) : (k, f) ∈ keyedOffer q k f := by
  unfold keyedOffer
  split_ifs with waits
  · obtain ⟨⟨k', g⟩, member, rfl⟩ : ∃ a ∈ q, a.1 = k := by simpa using waits
    exact List.mem_map.mpr ⟨(k', g), member, if_pos rfl⟩
  · simp

theorem mem_keyedOffer_of_ne {q : List (EngineKey × Frame)} {k k' : EngineKey} {g : Frame} (other : k' ≠ k) (h : (k', g) ∈ q) (f : Frame) :
    (k', g) ∈ keyedOffer q k f := by
  unfold keyedOffer
  split_ifs
  · exact List.mem_map.mpr ⟨(k', g), h, if_neg other⟩
  · simp [h]

/-- A grant takes the frame from the Engine Queue or leaves it there. -/
theorem grant_carries {p : FieldPort} (h : (EngineKey.rotor r, f) ∈ p.engine ∨ p.transmitting = some (.engine, f)) :
    (EngineKey.rotor r, f) ∈ p.grant.engine ∨ p.grant.transmitting = some (.engine, f) := by
  have taken {k : EngineKey} {g : Frame} {rest : List (EngineKey × Frame)} (member : (EngineKey.rotor r, f) ∈ (k, g) :: rest) :
      (EngineKey.rotor r, f) ∈ rest ∨ some (FOutSource.engine, g) = some (.engine, f) := by
    obtain first | later := List.mem_cons.mp member
    · obtain ⟨-, rfl⟩ := Prod.mk.inj first
      exact .inr rfl
    · exact .inl later
  cases idle : p.transmitting with
  | some carried => simpa only [FieldPort.grant, idle] using h
  | none =>
    have waits : (EngineKey.rotor r, f) ∈ p.engine := by simpa [idle] using h
    cases urgent : p.urgent with
    | cons first rest => exact .inl (by simpa only [FieldPort.grant, idle, urgent] using waits)
    | nil =>
      cases engine : p.engine with
      | nil => simp [engine] at waits
      | cons first rest =>
        rw [engine] at waits
        cases pass : p.pass with
        | nil => simpa only [FieldPort.grant, idle, urgent, engine, pass] using taken waits
        | cons g others =>
          cases served : p.servedLast with
          | pass => simpa only [FieldPort.grant, idle, urgent, engine, pass, served] using taken waits
          | engine => exact .inl (by simpa only [FieldPort.grant, idle, urgent, engine, pass, served] using waits)

theorem offerEngine_carries (r : RotorId) (f : Frame) (s : State) : (offerEngine (.rotor r) f s).Carries r f :=
  grant_carries (.inl (keyedOffer_mem _ f))

theorem State.Carries.offerEngine (h : s.Carries r f) (other : i ≠ r) (g : Frame) : (offerEngine (.rotor i) g s).Carries r f := by
  refine grant_carries (h.imp_left fun waits => mem_keyedOffer_of_ne ?_ waits g)
  rintro ⟨⟩
  exact other rfl

/-! ## An event raised (R172) -/

theorem raise_field (k : EventKind) (subject detail : Nat) : (raise k subject detail s).field = s.field := by
  simp only [raise]
  split_ifs <;> rfl

theorem raise_flags (k : EventKind) (subject detail : Nat) : (raise k subject detail s).report.flags = s.report.flags ||| k.bit := by
  simp only [raise]
  split_ifs <;> rfl

theorem getLsbD_bit (k : EventKind) : k.bit.getLsbD k.code = true := by
  cases k <;> decide

theorem raise_latches (k : EventKind) (subject detail : Nat) : (raise k subject detail s).report.flags.getLsbD k.code = true := by
  rw [raise_flags, BitVec.getLsbD_or, getLsbD_bit, Bool.or_true]

/-! ## The update of one rotor (R136) -/

theorem updateRotor_of_passed (h : (s.rotorEntry r).enabled = false ∨ (s.rotor r).condition.isTurning = false) :
    updateRotor r s = s :=
  if_neg (by rwa [Bool.and_eq_true, not_and_or, Bool.not_eq_true, Bool.not_eq_true])

theorem RotorRecord.not_still_of_turning (h : x.condition.isTurning = true) : ¬ (x.condition = .unhomed ∨ x.condition = .halted) := by
  rw [← RotorCondition.still_iff]
  simp [h]

theorem updateRotor_of_enabled (enabled : (s.rotorEntry r).enabled = true) (turns : (s.rotor r).condition.isTurning = true) :
    updateRotor r s =
      if (s.rotor r).Stalls (s.rotorEntry r) then haltRotor r .stall (s.updRotor r RotorRecord.advance)
      else
        let ramped := s.updRotor r (RotorRecord.rampStage (s.rotorEntry r) ∘ RotorRecord.advance)
        if (ramped.rotor r).step = (s.rotor r).step then ramped else offerRotor r ramped := by
  have advanced : (s.updRotor r RotorRecord.advance).rotor r = (s.rotor r).advance := by simp
  rw [updateRotor, if_pos (by simp [enabled, turns])]
  simp only [advanced, State.updRotor_updRotor, Bool.and_eq_true, decide_eq_true_eq]
  rfl

theorem updateRotor_of_stalled (enabled : (s.rotorEntry r).enabled = true) (turns : (s.rotor r).condition.isTurning = true)
    (stalls : (s.rotor r).Stalls (s.rotorEntry r)) :
    updateRotor r s = raise .rotorHalted r.val 0
      ((offerEngine (.rotor r) (rotorFrame (s.rotorEntry r) 0) s).updRotor r (RotorRecord.haltedBy .stall ∘ RotorRecord.advance)) := by
  have advanced : (s.updRotor r RotorRecord.advance).rotor r = (s.rotor r).advance := by simp
  have stillTurns : ((s.updRotor r RotorRecord.advance).rotor r).condition.isTurning = true := by
    rw [advanced]
    exact turns
  rw [updateRotor_of_enabled enabled turns, if_pos stalls,
    haltRotor_of_not_still _ (RotorRecord.not_still_of_turning stillTurns), offerEngine_updRotor, State.updRotor_updRotor]
  rfl

theorem updateRotor_of_moving (enabled : (s.rotorEntry r).enabled = true) (turns : (s.rotor r).condition.isTurning = true)
    (runs : ¬ (s.rotor r).Stalls (s.rotorEntry r)) :
    updateRotor r s =
      (if ((s.rotor r).moved (s.rotorEntry r)).step = (s.rotor r).step then s
        else offerEngine (.rotor r) (rotorFrame (s.rotorEntry r) ((s.rotor r).moved (s.rotorEntry r)).step) s).updRotor r
          (RotorRecord.moved (s.rotorEntry r)) := by
  have ramped : ((s.updRotor r (RotorRecord.rampStage (s.rotorEntry r) ∘ RotorRecord.advance)).rotor r).step =
      ((s.rotor r).moved (s.rotorEntry r)).step := by simp [RotorRecord.moved]
  rw [updateRotor_of_enabled enabled turns, if_neg runs]
  simp only [ramped]
  by_cases same : ((s.rotor r).moved (s.rotorEntry r)).step = (s.rotor r).step
  · rw [if_pos same, if_pos same]
    refine State.updRotor_congr ?_
    exact (RotorRecord.moved_of_same_step same).symm
  · rw [if_neg same, if_neg same, offerRotor, ramped, offerEngine_updRotor, State.updRotor_updRotor]
    refine State.updRotor_congr ?_
    exact (RotorRecord.moved_of_new_step same).symm

theorem rotor_updateRotor_of_moving (enabled : (s.rotorEntry r).enabled = true) (turns : (s.rotor r).condition.isTurning = true)
    (runs : ¬ (s.rotor r).Stalls (s.rotorEntry r)) : (updateRotor r s).rotor r = (s.rotor r).moved (s.rotorEntry r) := by
  rw [updateRotor_of_moving enabled turns runs]
  split_ifs <;> exact (State.rotor_updRotor _ r r _).trans (if_pos rfl)

theorem updateRotor_carries_of_moving (enabled : (s.rotorEntry r).enabled = true) (turns : (s.rotor r).condition.isTurning = true)
    (runs : ¬ (s.rotor r).Stalls (s.rotorEntry r)) (changed : ((s.rotor r).moved (s.rotorEntry r)).step ≠ (s.rotor r).step) :
    (updateRotor r s).Carries r (rotorFrame (s.rotorEntry r) ((s.rotor r).moved (s.rotorEntry r)).step) := by
  rw [updateRotor_of_moving enabled turns runs, if_neg changed]
  exact offerEngine_carries r _ s

theorem rotor_updateRotor_of_stalled (enabled : (s.rotorEntry r).enabled = true) (turns : (s.rotor r).condition.isTurning = true)
    (stalls : (s.rotor r).Stalls (s.rotorEntry r)) : (updateRotor r s).rotor r = (s.rotor r).advance.haltedBy .stall := by
  rw [updateRotor_of_stalled enabled turns stalls, State.rotor_eq_of_get (raise_get _ _ _ (by simp))]
  exact (State.rotor_updRotor _ r r _).trans (if_pos rfl)

theorem updateRotor_carries_of_stalled (enabled : (s.rotorEntry r).enabled = true) (turns : (s.rotor r).condition.isTurning = true)
    (stalls : (s.rotor r).Stalls (s.rotorEntry r)) : (updateRotor r s).Carries r (rotorFrame (s.rotorEntry r) 0) := by
  rw [updateRotor_of_stalled enabled turns stalls, State.Carries, raise_field]
  exact offerEngine_carries r _ s

/-! ## What the update of another rotor keeps -/

/-- What every update of another rotor keeps of a rotor. -/
structure KeepsRotor (r : RotorId) (s u : State) : Prop where
  rotor : u.rotor r = s.rotor r
  entry : u.rotorEntry r = s.rotorEntry r
  carries : ∀ f, s.Carries r f → u.Carries r f
  latched : s.report.flags.getLsbD EventKind.rotorHalted.code = true → u.report.flags.getLsbD EventKind.rotorHalted.code = true

theorem KeepsRotor.refl (r : RotorId) (s : State) : KeepsRotor r s s := ⟨rfl, rfl, fun _ => id, id⟩

theorem KeepsRotor.trans (first : KeepsRotor r s u) (second : KeepsRotor r u v) : KeepsRotor r s v :=
  ⟨second.rotor.trans first.rotor, second.entry.trans first.entry, fun f h => second.carries f (first.carries f h),
    fun h => second.latched (first.latched h)⟩

theorem keepsRotor_updRotor (other : i ≠ r) (s : State) (g : RotorRecord → RotorRecord) : KeepsRotor r s (s.updRotor i g) :=
  ⟨by simp [other], rfl, fun _ => id, id⟩

theorem keepsRotor_offerEngine (other : i ≠ r) (s : State) (g : Frame) : KeepsRotor r s (offerEngine (.rotor i) g s) :=
  ⟨rfl, rfl, fun _ h => h.offerEngine other g, id⟩

theorem keepsRotor_raise (k : EventKind) (subject detail : Nat) (s : State) : KeepsRotor r s (raise k subject detail s) where
  rotor := State.rotor_eq_of_get (raise_get k subject detail (by simp)) r
  entry := State.rotorEntry_eq_of_get (raise_get k subject detail (by simp)) r
  carries f h := by rwa [State.Carries, raise_field]
  latched h := by rw [raise_flags, BitVec.getLsbD_or, h, Bool.true_or]

theorem keepsRotor_updateRotor (other : i ≠ r) (s : State) : KeepsRotor r s (updateRotor i s) := by
  by_cases passed : (s.rotorEntry i).enabled = false ∨ (s.rotor i).condition.isTurning = false
  · rw [updateRotor_of_passed passed]
    exact .refl r s
  · obtain ⟨enabled, turns⟩ : (s.rotorEntry i).enabled = true ∧ (s.rotor i).condition.isTurning = true := by simpa using passed
    by_cases stalls : (s.rotor i).Stalls (s.rotorEntry i)
    · rw [updateRotor_of_stalled enabled turns stalls]
      exact (keepsRotor_offerEngine other s _).trans ((keepsRotor_updRotor other _ _).trans (keepsRotor_raise _ _ _ _))
    · rw [updateRotor_of_moving enabled turns stalls]
      split_ifs
      · exact keepsRotor_updRotor other s _
      · exact (keepsRotor_offerEngine other s _).trans (keepsRotor_updRotor other _ _)

theorem keepsRotor_updateRotors {is : List RotorId} (others : r ∉ is) (s : State) :
    KeepsRotor r s (is.foldl (fun s i => updateRotor i s) s) := by
  induction is generalizing s with
  | nil => exact .refl r s
  | cons i is ih =>
    obtain ⟨other, later⟩ : r ≠ i ∧ r ∉ is := by simpa using others
    exact (keepsRotor_updateRotor other.symm s).trans (ih later _)

/-- Of the updates of all rotors one is the rotor's own; those before it and after it keep the rotor. -/
theorem exists_own_update (r : RotorId) (s : State) : ∃ u, KeepsRotor r s u ∧ KeepsRotor r (updateRotor r u) (forAll updateRotor s) := by
  obtain ⟨before, after, order⟩ := List.append_of_mem (List.mem_finRange r)
  have distinct : (r :: (before ++ after)).Nodup := (List.nodup_middle).mp (order ▸ List.nodup_finRange 4)
  obtain ⟨notBefore, notAfter⟩ : r ∉ before ∧ r ∉ after := by simpa using (List.nodup_cons.mp distinct).1
  refine ⟨before.foldl (fun s i => updateRotor i s) s, keepsRotor_updateRotors notBefore s, ?_⟩
  rw [forAll, order, List.foldl_append, List.foldl_cons]
  exact keepsRotor_updateRotors notAfter _

/-! ## The update of all rotors (R136) -/

/-- The state with the update timer restarted. -/
def State.rotorTimerRestarted (s : State) : State := { s with rotors := { s.rotors with updateTimer := some 20 } }

theorem State.rotorTimerRestarted_get {part : Part} (h : part ∉ [Part.rotorTimer]) : s.rotorTimerRestarted.get part = s.get part := by
  cases part with
  | rotorTimer => simp at h
  | _ => rfl

theorem exec_rotorUpdate_of_running {d : Nat} (h : s.rotors.updateTimer = some d) :
    exec .rotorUpdate s = .next (forAll updateRotor s.rotorTimerRestarted) := by
  change execRotorUpdate s = _
  simp only [execRotorUpdate, h]
  rfl

theorem rotorUpdates_onlyChange :
    OnlyChanges [.rotorTimer, .rotors, .output, .link, .sOut, .report] s (forAll updateRotor s.rotorTimerRestarted) := by
  intro part outside
  simp only [List.mem_cons, List.not_mem_nil, or_false, not_or] at outside
  rw [forAll_get fun i u => updateRotor_get (s := u) i (by simp [outside]), State.rotorTimerRestarted_get (by simp [outside])]

theorem rotorUpdates_rotor_of_passed (h : (s.rotorEntry r).enabled = false ∨ (s.rotor r).condition.isTurning = false) :
    (forAll updateRotor s).rotor r = s.rotor r := by
  obtain ⟨u, before, after⟩ := exists_own_update r s
  rw [after.rotor, updateRotor_of_passed (by rwa [before.entry, before.rotor]), before.rotor]

theorem rotorUpdates_of_stalled (enabled : (s.rotorEntry r).enabled = true) (turns : (s.rotor r).condition.isTurning = true)
    (stalls : (s.rotor r).Stalls (s.rotorEntry r)) :
    (forAll updateRotor s).rotor r = (s.rotor r).advance.haltedBy .stall
      ∧ (forAll updateRotor s).report.flags.getLsbD EventKind.rotorHalted.code = true
      ∧ (forAll updateRotor s).Carries r (rotorFrame (s.rotorEntry r) 0) := by
  obtain ⟨u, before, after⟩ := exists_own_update r s
  rw [← before.entry] at enabled stalls ⊢
  rw [← before.rotor] at turns stalls ⊢
  refine ⟨after.rotor.trans (rotor_updateRotor_of_stalled enabled turns stalls), after.latched ?_,
    after.carries _ (updateRotor_carries_of_stalled enabled turns stalls)⟩
  rw [updateRotor_of_stalled enabled turns stalls]
  exact raise_latches .rotorHalted _ _

theorem rotorUpdates_of_moving (enabled : (s.rotorEntry r).enabled = true) (turns : (s.rotor r).condition.isTurning = true)
    (runs : ¬ (s.rotor r).Stalls (s.rotorEntry r)) :
    (forAll updateRotor s).rotor r = (s.rotor r).moved (s.rotorEntry r)
      ∧ (((s.rotor r).moved (s.rotorEntry r)).step ≠ (s.rotor r).step →
          (forAll updateRotor s).Carries r (rotorFrame (s.rotorEntry r) ((s.rotor r).moved (s.rotorEntry r)).step)) := by
  obtain ⟨u, before, after⟩ := exists_own_update r s
  rw [← before.entry] at enabled runs ⊢
  rw [← before.rotor] at turns runs ⊢
  exact ⟨after.rotor.trans (rotor_updateRotor_of_moving enabled turns runs),
    fun changed => after.carries _ (updateRotor_carries_of_moving enabled turns runs changed)⟩

/-! ## The statement -/

/-- Settles O46: the four updates are one for each rotor, and each rotor's own decides its record and its frame. -/
theorem rotorUpdateMovesEachRotor : Obligations.RotorUpdateMovesEachRotor := by
  intro s d running
  have timer : (forAll updateRotor s.rotorTimerRestarted).rotors.updateTimer = some 20 :=
    forAll_get (part := .rotorTimer) (s := s.rotorTimerRestarted) fun i u => updateRotor_get (s := u) i (by simp)
  refine ⟨forAll updateRotor s.rotorTimerRestarted, exec_rotorUpdate_of_running running, timer, rotorUpdates_onlyChange,
    fun r => ⟨?passed, fun enabled turns => ⟨fun powered past => ?stalled, fun runs => ?moving⟩⟩⟩
  case passed => exact rotorUpdates_rotor_of_passed (s := s.rotorTimerRestarted)
  case stalled => exact rotorUpdates_of_stalled (s := s.rotorTimerRestarted) enabled turns ⟨powered, past⟩
  case moving =>
    have notStalled : ¬ (s.rotor r).Stalls (s.rotorEntry r) := by
      rintro ⟨powered, past⟩
      obtain still | within := runs
      · exact powered.ne' still
      · exact absurd past (Nat.not_lt.mpr within)
    obtain ⟨record, frame⟩ := rotorUpdates_of_moving (s := s.rotorTimerRestarted) enabled turns notStalled
    have closed := RotorRecord.moved_eq (x := s.rotor r) (e := s.rotorEntry r)
    rw [RotorRecord.effectiveTarget_of_turning turns] at closed
    refine ⟨record.trans closed, ?_⟩
    rw [record]
    exact frame

end Sys2Proof.Machine
end
